-- ==== Sys2Proof/Word.lean ====
section
/-! DEFINITION. The words that the ports and links of the part carry: the byte of a serial link and
the 16-bit sample of a pixel colour. Every other quantity of the manual is an exact integer
(00_scope 5.2) and is a natural number or an integer of the model. -/

namespace Sys2Proof

/-- One byte of a serial link (R180). -/
abbrev Byte := BitVec 8

/-- One linear colour value of a pixel, 16 bits unsigned (00_scope 5.4). -/
abbrev Level := BitVec 16

/-- The start byte of a record (R181). -/
abbrev startByte : Byte := 0xA5

end Sys2Proof
end

