-- ==== Sys2Proof/Syntax.lean ====
section
/-! DEFINITION. The commands of the part: one constructor for every row of spec/opcode_table.json, in
the table's order, with the operands that the row's event carries. -/

namespace Sys2Proof

/-- A record on a serial link, less its start byte, length and CRC (R181). -/
structure Record where
  kind : Byte
  tag  : Byte
  body : List Byte
  deriving DecidableEq, Repr

/-- What a request of a given kind carries: its tag and its body (R181, R183). -/
structure Request where
  tag  : Byte
  body : List Byte
  deriving DecidableEq, Repr

/-- One pixel of three colours (00_scope 5.4). -/
structure Pixel where
  r : Level
  g : Level
  b : Level
  deriving DecidableEq, Repr

/-- One row of pixels, column 0 first. -/
abbrev Row := List Pixel

/-- The input frame header (R55, R108, R121): the frame number is a 32-bit count, T0 a 48-bit time in µs
and the row period 0 to 65535 ns. The manual gives the width and height no field size. -/
structure FrameHeader where
  frameNumber : BitVec 32
  t0          : BitVec 48
  rowPeriod   : BitVec 16
  width       : Nat
  height      : Nat
  deriving DecidableEq, Repr

/-- The commands of the part. A request's command is the event at which the control link TAKES that
request from its inbound buffer (R188); the other commands are arrivals at a link, a port or a pin, the
start and end of a sending, and the start and end of a reset. -/
inductive Instr where
  | identify (q : Request)
  | status (q : Request)
  | subscribe (q : Request)
  | restartStream (q : Request)
  | restartWarm (q : Request)
  | restartCold (q : Request)
  | profileOpen (q : Request)
  | profileWrite (q : Request)
  | profileClose (q : Request)
  | profileDiscard (q : Request)
  | profileQuery (q : Request)
  | streamConfigure (q : Request)
  | streamStart (q : Request)
  | streamStop (q : Request)
  | streamRead (q : Request)
  | stageWrite (q : Request)
  | stageApply (q : Request)
  | stageCancel (q : Request)
  | stageRead (q : Request)
  | framingCapture (q : Request)
  | rampContinue (q : Request)
  | rampRestart (q : Request)
  | rampNow (q : Request)
  | rampHalt (q : Request)
  | watchSet (q : Request)
  | watchClear (q : Request)
  | watchRead (q : Request)
  | faultRead (q : Request)
  | sample (q : Request)
  | unknownKind (kind : Byte) (q : Request)
  | controlRecordArrival (bytes : List Byte)
  | notReadyRecord (bytes : List Byte)
  | lensRecordArrival (bytes : List Byte)
  | frameHeader (h : FrameHeader)
  | rampComplete (h : FrameHeader)
  | inputRow (row : Row)
  | frameEnd
  | sendReply
  | sendNotice
  | sendEnd
  | powerOn
  | powerLoss
  | resetLineAssert
  | resetLineRelease
  | resetEnd
  deriving DecidableEq, Repr

end Sys2Proof
end

