-- ==== Sys2Proof/Decode.lean ====
section
/-! DEFINITION. The command that a word of the opcode table spells. No row of spec/opcode_table.json has bits, fixed or
named: the part's commands are events at its links, ports and pins, and none is fetched as a word. -/

namespace Sys2Proof

/-- The command that an `nbits`-bit word spells by the table's bits: no row gives bits, so no word spells one. -/
def decodeTableWord (nbits w : Nat) : Option Instr :=
  match nbits, w with
  | _, _ => none

end Sys2Proof
end

