-- ==== Sys2Proof/Config.lean ====
section
/-! DEFINITION. The fixed capacities and the identity of the Efjora 2460 (R191). The manual leaves no value
of the part open, so this file holds no free value. -/

namespace Sys2Proof.Config

/-- Samples per source history (R28, R191). -/
abbrev historyDepth : Nat := 8
/-- Records the inbound request buffer holds (R185, R191). -/
abbrev inboundCapacity : Nat := 8
/-- Replies the outbound reply queue holds (R189, R191). -/
abbrev replyCapacity : Nat := 16
/-- Bytes of one profile slot (R2, R191). -/
abbrev slotBytes : Nat := 65536
/-- Pixels the line store has room for (R104, R191). -/
abbrev lineStorePixels : Nat := 1048576
/-- The greatest number of rows of the line store (R104, R191). -/
abbrev lineStoreRows : Nat := 512
/-- Where every saturating 16-bit count stops (R29, R120, R158, R187, R193). -/
abbrev countMax : Nat := 65535
/-- Where the following count of the fault record stops (R169). -/
abbrev followingMax : Nat := 255
/-- The scale code of no enlargement (00_scope 5.4, R80). -/
abbrev unityScale : Nat := 65536
/-- The greatest maximum scale STREAM_CONFIGURE admits (R103). -/
abbrev scaleLimit : Nat := 81920
/-- The gain code of unity gain (R88). -/
abbrev unityGain : Nat := 4096
/-- The strength of a correction applied in full (00_scope 5.4). -/
abbrev fullStrength : Nat := 256

/-- The part name of IDENTIFY, the eleven characters of "EFJORA 2460" in ASCII (R191). -/
def partName : List Byte :=
  [0x45, 0x46, 0x4A, 0x4F, 0x52, 0x41, 0x20, 0x32, 0x34, 0x36, 0x30]
/-- The family number (R191). -/
abbrev familyNumber : Nat := 1
/-- The part number (R191). -/
abbrev partNumber : Nat := 2460
/-- The device revision (R191). -/
abbrev deviceRevision : Nat := 1
/-- The record protocol version (R191). -/
abbrev protocolVersion : Nat := 1

end Sys2Proof.Config
end

