-- ==== Sys2Proof/Machine/State.lean ====
section
/-! DEFINITION. The state of the part, block by block as 00_scope 2.2 names them, and the state right after
a power-on reset. Each structure's docstring names the rule that gives it. -/

namespace Sys2Proof.Machine

/-- The three sources of lens data, MOUNT 0, MOTOR 1, PANEL 2 (R22). -/
inductive Source where
  | mount | motor | panel
  deriving DecidableEq, Repr

/-- The three lens axes, FOCUS 0, ZOOM 1, IRIS 2. -/
inductive Axis where
  | focus | zoom | iris
  deriving DecidableEq, Repr

/-- One value for each source. -/
structure PerSource (α : Type) where
  mount : α
  motor : α
  panel : α
  deriving DecidableEq, Repr

/-- One value for each axis. -/
structure PerAxis (α : Type) where
  focus : α
  zoom  : α
  iris  : α
  deriving DecidableEq, Repr

/-- Eight numbered values: the slots of the profile store (R3), the watches (R150). -/
structure Eight (α : Type) where
  e0 : α
  e1 : α
  e2 : α
  e3 : α
  e4 : α
  e5 : α
  e6 : α
  e7 : α
  deriving DecidableEq, Repr

/-- Eight equal values. -/
def Eight.all {α : Type} (x : α) : Eight α := ⟨x, x, x, x, x, x, x, x⟩

/-! ### Samples and histories (chapter 2) -/

/-- An accepted sample in its source's history: the measurement time and the code of each axis the sample
carries (R23). -/
structure Sample where
  time  : Nat
  codes : PerAxis (Option Nat)
  deriving DecidableEq, Repr

/-- The source histories, oldest sample first (R27, R28), and the out-of-order counts (R29). -/
structure Intake where
  histories  : PerSource (List Sample)
  outOfOrder : PerSource Nat
  deriving DecidableEq, Repr

/-! ### The lens tracker (chapter 3) -/

/-- The state of an axis at an evaluation (R38). -/
inductive AxisState where
  | fresh | coasting | holding | lost | none
  deriving DecidableEq, Repr

/-- An axis track (R38). -/
structure Track where
  source     : Option Source
  state      : AxisState
  held       : Option Nat
  prevSource : Option Source
  prevState  : AxisState
  deriving DecidableEq, Repr

/-- The track of an axis that has held no value since its reset (R53). -/
def Track.initial : Track := ⟨Option.none, .none, Option.none, Option.none, .none⟩

/-! ### The profile store (chapter 1) -/

/-- The numbers of focus, zoom and iris nodes (R1). -/
structure Geometry where
  nf : Nat
  nz : Nat
  ni : Nat
  deriving DecidableEq, Repr

/-- The end of the focus axis at which focus is at infinity (R1). -/
inductive InfinityEnd where
  | low | high
  deriving DecidableEq, Repr

/-- The five sections of a profile (R1). -/
inductive Section5 where
  | focusNodes | zoomNodes | irisNodes | magnification | shading
  deriving DecidableEq, Repr

/-- The contents of a profile and its written maps in one: an element is `some` code once it has been written
since the slot was opened, and `none` while its mark is clear (R4, R11). An element of SHADING is a curve set of
51 gain codes, red knots 0 to 16, then green, then blue (R1). -/
structure Body where
  focusNodes    : List (Option Nat)
  zoomNodes     : List (Option Nat)
  irisNodes     : List (Option Nat)
  magnification : List (Option Nat)
  shading       : List (Option (List Nat))
  deriving DecidableEq, Repr

/-- A profile that lives in a slot: its descriptor fields (R4) and its body. -/
structure Profile where
  geometry : Geometry
  infinity : InfinityEnd
  label    : List Byte
  size     : Nat
  pair     : Bool
  body     : Body
  deriving DecidableEq, Repr

/-- The states of a slot that holds a profile's descriptor (R3). -/
inductive Stage where
  | opened | ready | inUse
  deriving DecidableEq, Repr

/-- A slot (R3, R4): EMPTY and PARTNER slots hold no profile fields, so their descriptor is at its EMPTY values
by construction. -/
inductive Slot where
  | empty
  | partner (lower : Fin 8)
  | live (stage : Stage) (profile : Profile)
  deriving DecidableEq, Repr

/-! ### The settings stage (chapter 8) -/

/-- REF_MODE (R75). -/
inductive RefMode where
  | tightest | infinity | captured
  deriving DecidableEq, Repr

/-- LOSS_ACTION (R145). -/
inductive LossAction where
  | hold | fade
  deriving DecidableEq, Repr

/-- One copy, active or staged, of the ten operational parameters (R125). -/
structure Params where
  profile    : Option (Fin 8)
  refMode    : RefMode
  refMag     : Nat
  focusOrder : List Source
  zoomOrder  : List Source
  irisOrder  : List Source
  coastLimit : Nat
  lostLimit  : Nat
  lossAction : LossAction
  fadeFrames : Nat
  deriving DecidableEq, Repr

/-- The defaults of R125. -/
def Params.default : Params :=
  { profile := none, refMode := .tightest, refMag := 32768,
    focusOrder := [.mount, .motor, .panel], zoomOrder := [.mount, .panel], irisOrder := [.mount, .panel],
    coastLimit := 10000, lostLimit := 250000, lossAction := .hold, fadeFrames := 24 }

/-- The changed flags of the ten parameters (R126). -/
structure Changed where
  profile    : Bool
  refMode    : Bool
  refMag     : Bool
  focusOrder : Bool
  zoomOrder  : Bool
  irisOrder  : Bool
  coastLimit : Bool
  lostLimit  : Bool
  lossAction : Bool
  fadeFrames : Bool
  deriving DecidableEq, Repr

/-- Every changed flag clear. -/
def Changed.clear : Changed := ⟨false, false, false, false, false, false, false, false, false, false⟩

/-- The apply-pending state (R126). -/
inductive ApplyPending where
  | none | frame | band
  deriving DecidableEq, Repr

/-- The settings stage (R126). -/
structure Settings where
  active  : Params
  staged  : Params
  changed : Changed
  apply   : ApplyPending
  deriving DecidableEq, Repr

/-- The settings stage after a WARM or COLD reset (R135). -/
def Settings.initial : Settings := ⟨Params.default, Params.default, Changed.clear, .none⟩

/-! ### The band planner (chapter 4) -/

/-- The grid position of an axis value: interval index, fraction, and whether the clamp did not act (R70, R71). -/
structure GridPos where
  i       : Nat
  u       : Nat
  inRange : Bool
  deriving DecidableEq, Repr

/-- What a band plan records of one axis: the tracker's outcome and, in a plan that is not neutral, the grid
position (R59). -/
structure PlanAxis where
  source : Option Source
  state  : AxisState
  value  : Option Nat
  grid   : Option GridPos
  deriving DecidableEq, Repr

/-- Conditions 0 to 11 of a band plan (R61). -/
structure Conditions where
  focusFresh       : Bool
  focusLive        : Bool
  zoomLive         : Bool
  irisLive         : Bool
  focusInRange     : Bool
  zoomInRange      : Bool
  irisInRange      : Bool
  scaleClampedLow  : Bool
  scaleClampedHigh : Bool
  profilePresent   : Bool
  lensKnown        : Bool
  fullStrength     : Bool
  deriving DecidableEq, Repr

/-- The magnification fields of a plan that is not neutral (R59). -/
structure Breathing where
  m    : Nat
  mRef : Nat
  sRaw : Nat
  deriving DecidableEq, Repr

/-- A band plan (R59). The knots are 51 gain codes in the order red, green, blue, knot 0 to 16. -/
structure Plan where
  frameNumber : Nat
  band        : Nat
  time        : Nat
  slot        : Option (Fin 8)
  used        : PerAxis Bool
  axes        : PerAxis PlanAxis
  breathing   : Option Breathing
  s           : Nat
  sEff        : Nat
  kb          : Nat
  kv          : Nat
  knots       : List Nat
  conditions  : Conditions
  deriving DecidableEq, Repr

/-- The band planner: the plan queue, lowest band first (R63), the latest plan (R65) and capture-owed (R66). -/
structure Planner where
  queue       : List Plan
  latest      : Option Plan
  captureOwed : Bool
  deriving DecidableEq, Repr

/-! ### The pixel path (chapters 7 and 11) -/

/-- The stream configuration with its derived figures (R102, R104, R54): `lag` is D, `lead` is Lw, `depth` is
L_req. -/
structure StreamConfig where
  width     : Nat
  height    : Nat
  bands     : Nat
  sMax      : Nat
  cx2       : Nat
  cy2       : Nat
  ax        : Nat
  ay        : Nat
  hb        : Nat
  bandCount : Nat
  lag       : Nat
  lead      : Nat
  depth     : Nat
  capacity  : Nat
  deriving DecidableEq, Repr

/-- The stream state (R102). -/
inductive Stream where
  | stopped | waiting | inFrame | stopping
  deriving DecidableEq, Repr

/-- The frame report (R172). -/
structure FrameReport where
  frameNumber  : Nat
  rowsReceived : Nat
  rowsEmitted  : Nat
  bandsPlanned : Nat
  slot         : Option (Fin 8)
  firstScale   : Option Nat
  leastScale   : Option Nat
  greatestScale : Option Nat
  kb           : Option Nat
  kv           : Option Nat
  axisStates   : PerAxis (Option AxisState)
  clampedLow   : Bool
  clampedHigh  : Bool
  outOfRange   : PerAxis Bool
  focusFresh   : Bool
  saturation   : Nat
  truncated    : Bool
  long         : Bool
  aborted      : Bool
  deriving DecidableEq, Repr

/-- The report as it begins when a header starts a frame (R173). -/
def FrameReport.initial (frameNumber : Nat) : FrameReport :=
  { frameNumber, rowsReceived := 0, rowsEmitted := 0, bandsPlanned := 0, slot := none,
    firstScale := none, leastScale := none, greatestScale := none, kb := none, kv := none,
    axisStates := ⟨none, none, none⟩, clampedLow := false, clampedHigh := false,
    outOfRange := ⟨false, false, false⟩, focusFresh := false, saturation := 0,
    truncated := false, long := false, aborted := false }

/-- The frame in progress (R102). Its frame number, rows received, rows emitted and three flags are those of its
accumulating report, kept once. -/
structure Frame where
  header     : FrameHeader
  headerSent : Bool
  report     : FrameReport
  deriving DecidableEq, Repr

/-- The pixel path (R102). The configured flag is set exactly when `config` is present. The line store lists the
held rows with their row index, lowest first (R111). -/
structure PixelPath where
  stream    : Stream
  config    : Option StreamConfig
  lineStore : List (Nat × Row)
  frame     : Option Frame
  lastFrame : Option Nat
  skip      : Bool
  orphan    : Bool
  deriving DecidableEq, Repr

/-! ### The ramp unit (chapter 9) -/

/-- The two forms that wait in a ramp's buffer (R139). -/
inductive BufferedForm where
  | continue | restart
  deriving DecidableEq, Repr

/-- A command waiting in a ramp's buffer (R139). -/
structure Buffered where
  form   : BufferedForm
  target : Nat
  total  : Nat
  deriving DecidableEq, Repr

/-- A strength ramp (R137). -/
structure Ramp where
  value    : Nat
  target   : Nat
  start    : Nat
  total    : Nat
  done     : Nat
  running  : Bool
  buffered : Option Buffered
  deriving DecidableEq, Repr

/-- The ramp after a WARM or COLD reset (R149). -/
def Ramp.initial : Ramp := ⟨0, 0, 0, 0, 0, false, none⟩

/-- The ramp unit: two ramps and the fade factor f (R137). -/
structure RampUnit where
  breathing : Ramp
  shading   : Ramp
  fade      : Nat
  deriving DecidableEq, Repr

/-- The ramp unit after a WARM or COLD reset (R149). -/
def RampUnit.initial : RampUnit := ⟨Ramp.initial, Ramp.initial, 256⟩

/-! ### Watches, notices, faults (chapters 10 and 11) -/

/-- The outcome of a watch's latest evaluation (R150). -/
inductive Baseline where
  | unknown | conform | nonconform
  deriving DecidableEq, Repr

/-- A watch (R150). Bit n of the two sets names condition n. -/
structure Watch where
  selection : BitVec 13
  expected  : BitVec 13
  lo        : Nat
  hi        : Nat
  level     : Nat
  baseline  : Baseline
  tripped   : Bool
  owed      : Bool
  deriving DecidableEq, Repr

/-- The watch after a COLD reset (R163). -/
def Watch.initial : Watch := ⟨0, 0, 0, 65535, 0, .unknown, false, false⟩

/-- The notice state: one pending flag for each kind but WATCH, the retained frame report, the frames count
(R157, R158) and the restart tag (R179). -/
structure Notices where
  restarted   : Bool
  fault       : Bool
  source      : Bool
  framing     : Bool
  ramp        : Bool
  stream      : Bool
  summary     : Bool
  retained    : Option FrameReport
  framesCount : Nat
  restartTag  : Byte
  deriving DecidableEq, Repr

/-- The notice state at the end of a device-level reset whose tag is `tag` (R164, R179). -/
def Notices.afterReset (tag : Byte) : Notices :=
  ⟨true, false, false, false, false, false, false, none, 0, tag⟩

/-- The kinds of stream fault, in the order of R169. -/
inductive FaultKind where
  | format | headerMissing | inputShort | inputLong
  deriving DecidableEq, Repr

/-- The fault record while its present flag is set (R169). -/
structure FaultEntry where
  kind      : FaultKind
  frame     : Option Nat
  row       : Option Nat
  following : Nat
  deriving DecidableEq, Repr

/-! ### The links (chapter 12) -/

/-- A link's receiver (R182, R187): hunting for a start byte; receiving a record, with the bytes that have come
after its start byte; or passing over a record whose start byte arrived while ready was deasserted. -/
inductive Receiver where
  | hunting
  | receiving (got : List Byte)
  | passing (got : List Byte)
  deriving DecidableEq, Repr

/-- The record being sent on the control link: the oldest reply of the queue, or a notice (R189). -/
inductive Sending where
  | reply (r : Record)
  | notice (r : Record)
  deriving DecidableEq, Repr

/-- The control link: its receiver, the inbound request buffer (R185), the ready line (R186), the outbound reply
queue and the record being sent (R189), the CRC failure count and the not-ready count (R187), and the subscription
set, where bit n names notice kind 0x40 + n (R162). -/
structure ControlLink where
  receiver      : Receiver
  inbound       : List Record
  ready         : Bool
  replies       : List Record
  sending       : Option Sending
  crcFailures   : Nat
  notReady      : Nat
  subscriptions : BitVec 8
  deriving DecidableEq, Repr

/-- The lens link: its receiver and its error count (R193). -/
structure LensLink where
  receiver : Receiver
  errors   : Nat
  deriving DecidableEq, Repr

/-! ### Resets (chapter 11) -/

/-- The cause of the last device-level reset, in the order of R178. -/
inductive ResetCause where
  | powerOn | resetLine | coldRequest | warmRequest
  deriving DecidableEq, Repr

/-- A device-level reset under way: its cause and the tag it will hold for RESTARTED (R176, R177). -/
structure ResetRun where
  cause : ResetCause
  tag   : Byte
  deriving DecidableEq, Repr

/-! ### What has left the part -/

/-- A packet emitted at the pixel output port (R121). -/
inductive VideoPacket where
  | header (h : FrameHeader)
  | row (r : Row)
  | trailer (report : FrameReport)
  deriving DecidableEq, Repr

/-- What has gone out on the control link's transmit line: a record sent whole, as its bytes, or a record whose
sending was ended part way (R189). -/
inductive LinkOutput where
  | whole (bytes : List Byte)
  | cutShort (r : Record)
  deriving DecidableEq, Repr

/-- The record of what the part has put out, in order. It belongs to the model, not to the part. -/
structure Outputs where
  video : List VideoPacket
  link  : List LinkOutput
  deriving DecidableEq, Repr

/-! ### The whole -/

/-- The state of the part, with the queue of the commands that wait to happen. `powered` and `resetLine` are the
supply and the reset line, and `resetRun` is the device-level reset under way, if any (R176, R177). -/
structure State where
  pending    : List Instr
  powered    : Bool
  resetLine  : Bool
  resetRun   : Option ResetRun
  resetCause : ResetCause
  control    : ControlLink
  lens       : LensLink
  intake     : Intake
  tracks     : PerAxis Track
  slots      : Eight Slot
  settings   : Settings
  planner    : Planner
  pixel      : PixelPath
  ramps      : RampUnit
  watches    : Eight Watch
  notices    : Notices
  faults     : Option FaultEntry
  outputs    : Outputs
  deriving DecidableEq, Repr

/-- The control link after a COLD reset (R194): ready stays deasserted until RESTARTED has been sent. -/
def ControlLink.initial : ControlLink := ⟨.hunting, [], false, [], none, 0, 0, 0⟩

/-- The lens link after a device-level reset (R194). -/
def LensLink.initial : LensLink := ⟨.hunting, 0⟩

/-- The sample intake after a WARM or COLD reset (R35). -/
def Intake.initial : Intake := ⟨⟨[], [], []⟩, ⟨0, 0, 0⟩⟩

/-- The band planner after a WARM or COLD reset (R69). -/
def Planner.initial : Planner := ⟨[], none, false⟩

/-- The pixel path after a COLD reset (R124). -/
def PixelPath.initial : PixelPath := ⟨.stopped, none, [], none, none, false, false⟩

/-- The part right after the end of its power-on reset: every block at its COLD values, RESTARTED pending with
tag 0 and the cause POWER_ON (R177 to R179). No command waits and nothing has been put out. -/
def State.reset : State :=
  { pending := [], powered := true, resetLine := false, resetRun := none, resetCause := .powerOn,
    control := ControlLink.initial, lens := LensLink.initial, intake := Intake.initial,
    tracks := ⟨Track.initial, Track.initial, Track.initial⟩, slots := Eight.all .empty,
    settings := Settings.initial, planner := Planner.initial, pixel := PixelPath.initial,
    ramps := RampUnit.initial, watches := Eight.all Watch.initial, notices := Notices.afterReset 0,
    faults := none, outputs := ⟨[], []⟩ }

/-- Why the part stops. Nothing of the manual stops it: every irregularity is recorded or answered and the part
goes on, so there is no such reason and no command answers a fault. -/
inductive Fault where
  deriving DecidableEq, Repr

/-- Why the model gives a command no meaning. -/
inductive Refusal where
  /-- The command of this mnemonic is not modelled. No arm of exec answers it. Safe: the model stops. -/
  | notModelled (mnemonic : String)
  deriving DecidableEq, Repr

end Sys2Proof.Machine
end

