-- ==== Sys2Proof/Machine/Update.lean ====
section
/-! DEFINITION. The updates of one block of the state, and the accessors of the small containers. -/

namespace Sys2Proof.Machine

/-- The state with another queue of waiting commands. -/
def State.setPending (s : State) (q : List Instr) : State := { s with pending := q }

/-- The state with another `powered`. -/
def State.setPowered (s : State) (x : Bool) : State := { s with powered := x }

/-- The state with another `resetLine`. -/
def State.setResetLine (s : State) (x : Bool) : State := { s with resetLine := x }

/-- The state with another `resetRun`. -/
def State.setResetRun (s : State) (x : Option ResetRun) : State := { s with resetRun := x }

/-- The state with another `resetCause`. -/
def State.setResetCause (s : State) (x : ResetCause) : State := { s with resetCause := x }

/-- The state with another `control`. -/
def State.setControl (s : State) (x : ControlLink) : State := { s with control := x }

/-- The state with another `lens`. -/
def State.setLens (s : State) (x : LensLink) : State := { s with lens := x }

/-- The state with another `intake`. -/
def State.setIntake (s : State) (x : Intake) : State := { s with intake := x }

/-- The state with another `tracks`. -/
def State.setTracks (s : State) (x : PerAxis Track) : State := { s with tracks := x }

/-- The state with another `slots`. -/
def State.setSlots (s : State) (x : Eight Slot) : State := { s with slots := x }

/-- The state with another `settings`. -/
def State.setSettings (s : State) (x : Settings) : State := { s with settings := x }

/-- The state with another `planner`. -/
def State.setPlanner (s : State) (x : Planner) : State := { s with planner := x }

/-- The state with another `pixel`. -/
def State.setPixel (s : State) (x : PixelPath) : State := { s with pixel := x }

/-- The state with another `ramps`. -/
def State.setRamps (s : State) (x : RampUnit) : State := { s with ramps := x }

/-- The state with another `watches`. -/
def State.setWatches (s : State) (x : Eight Watch) : State := { s with watches := x }

/-- The state with another `notices`. -/
def State.setNotices (s : State) (x : Notices) : State := { s with notices := x }

/-- The state with another `faults`. -/
def State.setFaults (s : State) (x : Option FaultEntry) : State := { s with faults := x }

/-- The state with another `outputs`. -/
def State.setOutputs (s : State) (x : Outputs) : State := { s with outputs := x }


/-- The value of one axis. -/
def PerAxis.get {α : Type} (p : PerAxis α) : Axis → α
  | .focus => p.focus
  | .zoom => p.zoom
  | .iris => p.iris

/-- A function on each axis's value. -/
def PerAxis.map {α β : Type} (f : α → β) (p : PerAxis α) : PerAxis β := ⟨f p.focus, f p.zoom, f p.iris⟩

/-- The three values in the order FOCUS, ZOOM, IRIS. -/
def PerAxis.toList {α : Type} (p : PerAxis α) : List α := [p.focus, p.zoom, p.iris]

/-- The value of one source. -/
def PerSource.get {α : Type} (p : PerSource α) : Source → α
  | .mount => p.mount
  | .motor => p.motor
  | .panel => p.panel

/-- Another value for one source. -/
def PerSource.set {α : Type} (p : PerSource α) (k : Source) (x : α) : PerSource α :=
  match k with
  | .mount => ⟨x, p.motor, p.panel⟩
  | .motor => ⟨p.mount, x, p.panel⟩
  | .panel => ⟨p.mount, p.motor, x⟩

/-- The three values in the order MOUNT, MOTOR, PANEL. -/
def PerSource.toList {α : Type} (p : PerSource α) : List α := [p.mount, p.motor, p.panel]

/-- The numbers 0 to 7 in order. -/
def indices8 : List (Fin 8) := [0, 1, 2, 3, 4, 5, 6, 7]

/-- The eight values in the order of their numbers. -/
def Eight.toList {α : Type} (v : Eight α) : List α := [v.e0, v.e1, v.e2, v.e3, v.e4, v.e5, v.e6, v.e7]

/-- The value of one number. -/
def Eight.get {α : Type} (v : Eight α) (i : Fin 8) : α :=
  match i with
  | 0 => v.e0
  | 1 => v.e1
  | 2 => v.e2
  | 3 => v.e3
  | 4 => v.e4
  | 5 => v.e5
  | 6 => v.e6
  | 7 => v.e7

/-- Another value for one number. -/
def Eight.set {α : Type} (v : Eight α) (i : Fin 8) (x : α) : Eight α :=
  match i with
  | 0 => { v with e0 := x }
  | 1 => { v with e1 := x }
  | 2 => { v with e2 := x }
  | 3 => { v with e3 := x }
  | 4 => { v with e4 := x }
  | 5 => { v with e5 := x }
  | 6 => { v with e6 := x }
  | 7 => { v with e7 := x }

/-- A function on each of the eight values. -/
def Eight.map {α β : Type} (f : α → β) (v : Eight α) : Eight β :=
  ⟨f v.e0, f v.e1, f v.e2, f v.e3, f v.e4, f v.e5, f v.e6, f v.e7⟩

/-- The number a byte or a count names, when it lies in 0 to 7. -/
def index8 (n : Nat) : Option (Fin 8) :=
  if h : n < 8 then some ⟨n, h⟩ else none

/-- A device-level reset is not under way and the part is powered: what a request, a sending, a lens-link byte and a
pixel packet need to have any effect (R176, R177, R188, R189, R193). -/
def State.running (s : State) : Bool := s.powered && s.resetRun.isNone

end Sys2Proof.Machine
end

