-- ==== Sys2Proof/Machine/Arith.lean ====
section
/-! DEFINITION. The arithmetic of 00_scope 5.2 on exact integers, the multi-byte fields of 00_scope 5.7 and the
CRC of R181. -/

namespace Sys2Proof.Machine

/-- `num/den` rounded to nearest, halves upward: the floor of the value plus one half (00_scope 5.2). -/
def roundDiv (num : Int) (den : Nat) : Int := (2 * num + den) / (2 * den)

/-- The least integer not less than `num/den` (00_scope 5.2). -/
def ceilDiv (num den : Nat) : Nat := (num + den - 1) / den

/-- `a + round((b − a)·num/den)`, the interpolation step of R41, R73, R74, R90, R98 and R142. -/
def interpolate (a b num den : Nat) : Nat :=
  ((a : Int) + roundDiv (((b : Int) - a) * num) den).toNat

/-- `base + round((x − base)·k/256)`: a value drawn toward `base` by a strength k (R82, R92). -/
def drawToward (base x k : Nat) : Nat :=
  ((base : Int) + roundDiv (((x : Int) - base) * k) 256).toNat

/-- One more, stopping at `max` (00_scope 5.6). -/
def saturatingSucc (max n : Nat) : Nat := if n < max then n + 1 else n

/-- `k` more, stopping at `max` (00_scope 5.6). -/
def saturatingAdd (max n k : Nat) : Nat := if n + k ≤ max then n + k else if n ≤ max then max else n

/-- The number held in a multi-byte field, least significant byte first (00_scope 5.7). -/
def leNat : List Byte → Nat
  | [] => 0
  | b :: bs => b.toNat + 256 * leNat bs

/-- The `k` bytes of a multi-byte field, least significant byte first (00_scope 5.7). -/
def leBytes : Nat → Nat → List Byte
  | 0, _ => []
  | k + 1, n => BitVec.ofNat 8 n :: leBytes k (n / 256)

/-- One bit through the CRC register (R181). -/
def crcShift (c : BitVec 16) : BitVec 16 :=
  if c.msb then (c <<< 1) ^^^ 0x1021 else c <<< 1

/-- One byte, most significant bit first, through the CRC register (R181). -/
def crcByte (c : BitVec 16) (b : Byte) : BitVec 16 :=
  Nat.repeat crcShift 8 (c ^^^ (b.setWidth 16 <<< 8))

/-- The CRC-16 of R181. -/
def crc16 (bytes : List Byte) : BitVec 16 := bytes.foldl crcByte 0xFFFF

end Sys2Proof.Machine
end

