-- ==== Sys2Proof/Machine/Ops.lean ====
section
/-! DEFINITION. The operations that the commands share: record framing (R181, R182), the receivers of the two
links (R182, R187, R193), the taking of a request and its reply (R185, R186, R188). -/

namespace Sys2Proof.Machine

/-! ### Record framing -/

/-- The bytes of a record that its CRC covers: length, kind, tag and body (R181). -/
def recordContent (r : Record) : List Byte :=
  leBytes 2 (r.body.length + 2) ++ r.kind :: r.tag :: r.body

/-- A record as the bytes on the line: start byte, length, kind, tag, body, CRC (R181). -/
def recordBytes (r : Record) : List Byte :=
  startByte :: recordContent r ++ leBytes 2 (crc16 (recordContent r)).toNat

/-- What the bytes after a start byte make (R182). -/
inductive Reception where
  | incomplete
  | failed
  | good (r : Record) (rest : List Byte)
  deriving DecidableEq, Repr

/-- Reads a record from the bytes after its start byte (R182): the length must lie in 2 to 1026, and the CRC
received must agree with the CRC computed. -/
def receiveRecord : List Byte → Reception
  | l0 :: l1 :: rest =>
    let len := leNat [l0, l1]
    if len < 2 ∨ 1026 < len then .failed
    else if rest.length < len + 2 then .incomplete
    else if (crc16 (l0 :: l1 :: rest.take len)).toNat ≠ leNat ((rest.drop len).take 2) then .failed
    else
      match rest.take len with
      | kind :: tag :: body => .good ⟨kind, tag, body⟩ (rest.drop (len + 2))
      | _ => .failed
  | _ => .incomplete

/-- What the bytes after a start byte that arrived while ready was deasserted make (R187). -/
inductive PassOver where
  | incomplete
  | badLength
  | passed (rest : List Byte)
  deriving DecidableEq, Repr

/-- Passes over a record from the bytes after its start byte, without checking them (R187). -/
def passRecord : List Byte → PassOver
  | l0 :: l1 :: rest =>
    let len := leNat [l0, l1]
    if len < 2 ∨ 1026 < len then .badLength
    else if rest.length < len + 2 then .incomplete
    else .passed (rest.drop (len + 2))
  | _ => .incomplete

/-! ### The control link's receiver -/

/-- One CRC failure on the control link (R182, R187). -/
def ControlLink.countCrc (c : ControlLink) : ControlLink :=
  { c with crcFailures := saturatingSucc Config.countMax c.crcFailures }

/-- One record whose start byte arrived while ready was deasserted (R187). -/
def ControlLink.countNotReady (c : ControlLink) : ControlLink :=
  { c with notReady := saturatingSucc Config.countMax c.notReady }

/-- A good record enters the inbound buffer, and ready is deasserted when it brings the count to 8
(R185, R186). -/
def ControlLink.enter (c : ControlLink) (r : Record) : ControlLink :=
  { c with
    inbound := c.inbound ++ [r]
    ready := if c.inbound.length + 1 < Config.inboundCapacity then c.ready else false }

/-- Receives a record from the bytes after its start byte, then goes on with `next` over the bytes that follow it:
after a failure, from the byte after the start byte (R182). -/
def ControlLink.receive (next : List Byte → ControlLink → ControlLink) (bytes : List Byte) (c : ControlLink) :
    ControlLink :=
  match receiveRecord bytes with
  | .incomplete => { c with receiver := .receiving bytes }
  | .failed => next bytes c.countCrc
  | .good r rest => next rest (c.enter r)

/-- Passes over a record from the bytes after its start byte, then goes on with `next` (R187). -/
def ControlLink.pass (next : List Byte → ControlLink → ControlLink) (bytes : List Byte) (c : ControlLink) :
    ControlLink :=
  match passRecord bytes with
  | .incomplete => { c with receiver := .passing bytes }
  | .badLength => next bytes c
  | .passed rest => next rest c

/-- The receiver hunting over `bytes` (R182, R187). Every turn takes a byte off the list, so the first argument, one
more than the number of bytes, is never used up. -/
def ControlLink.hunt : Nat → List Byte → ControlLink → ControlLink
  | 0, _, c => { c with receiver := .hunting }
  | _ + 1, [], c => { c with receiver := .hunting }
  | n + 1, b :: bytes, c =>
    if b ≠ startByte then ControlLink.hunt n bytes c
    else if c.ready then c.receive (fun rest c' => ControlLink.hunt n rest c') bytes
    else (c.countNotReady).pass (fun rest c' => ControlLink.hunt n rest c') bytes

/-- The receiver hunting over all of `bytes` (R182, R187). -/
def ControlLink.huntAll (bytes : List Byte) (c : ControlLink) : ControlLink :=
  ControlLink.hunt (bytes.length + 1) bytes c

/-- Bytes arrive on the control link's receive line (R182, R187). -/
def ControlLink.feed (c : ControlLink) (bytes : List Byte) : ControlLink :=
  match c.receiver with
  | .hunting => ControlLink.huntAll bytes c
  | .receiving got => c.receive ControlLink.huntAll (got ++ bytes)
  | .passing got => c.pass ControlLink.huntAll (got ++ bytes)

/-! ### The lens link's receiver -/

/-- What the lens link's receiver has made of the bytes: `some` record completed good, or `none` for a CRC failure,
in order, and the receiver's state after them (R182, R193). -/
structure LensScan where
  events   : List (Option Record)
  receiver : Receiver
  deriving DecidableEq, Repr

/-- The lens link's receiver on the bytes after a start byte, then `next` over the bytes that follow (R182). -/
def lensReceive (next : List Byte → LensScan) (bytes : List Byte) : LensScan :=
  match receiveRecord bytes with
  | .incomplete => ⟨[], .receiving bytes⟩
  | .failed => { next bytes with events := none :: (next bytes).events }
  | .good r rest => { next rest with events := some r :: (next rest).events }

/-- The lens link's receiver hunting over `bytes` (R182). Every turn takes a byte off the list. -/
def lensHunt : Nat → List Byte → LensScan
  | 0, _ => ⟨[], .hunting⟩
  | _ + 1, [] => ⟨[], .hunting⟩
  | n + 1, b :: bytes =>
    if b ≠ startByte then lensHunt n bytes
    else lensReceive (fun rest => lensHunt n rest) bytes

/-- Bytes arrive on the lens link's receive line (R182, R193). The lens link has no ready line, so its receiver never
passes a record over. -/
def lensFeed (receiver : Receiver) (bytes : List Byte) : LensScan :=
  match receiver with
  | .receiving got => lensReceive (fun rest => lensHunt (rest.length + 1) rest) (got ++ bytes)
  | _ => lensHunt (bytes.length + 1) bytes

/-! ### Taking a request and answering it -/

/-- The result codes (R183). -/
inductive ResultCode where
  | ok | badKind | badLength | badValue | badState | noSlot | slotState | slotHeld | incomplete | order | capacity
  deriving DecidableEq, Repr

/-- The value of a result code (R183). -/
def ResultCode.code : ResultCode → Byte
  | .ok => 0
  | .badKind => 1
  | .badLength => 2
  | .badValue => 3
  | .badState => 4
  | .noSlot => 5
  | .slotState => 6
  | .slotHeld => 7
  | .incomplete => 8
  | .order => 9
  | .capacity => 10

/-- What the owner of a request makes of it: the body of the reply and the state after it (R188). -/
structure Answer where
  body  : List Byte
  state : State

/-- An answer with a result code and the fields that follow it (R183). -/
def answer (code : ResultCode) (fields : List Byte) (s : State) : Answer := ⟨code.code :: fields, s⟩

/-- A refusal that carries no field and changes nothing. -/
def refuse (code : ResultCode) (s : State) : Answer := answer code [] s

/-- The BAD_LENGTH answer, with the received body length (R183). -/
def refuseLength (q : Request) (s : State) : Answer := answer .badLength (leBytes 2 q.body.length) s

/-- The kinds of the table of requests in 12.3, with the body length each calls for: an exact length, or `false` for a
least length (R183). -/
def requestLength (kind : Byte) : Option (Nat × Bool) :=
  match kind.toNat with
  | 0x01 => some (0, true)
  | 0x02 => some (0, true)
  | 0x03 => some (2, true)
  | 0x04 => some (1, true)
  | 0x05 => some (5, false)
  | 0x06 => some (4, false)
  | 0x07 => some (1, true)
  | 0x08 => some (1, true)
  | 0x09 => some (1, true)
  | 0x0A => some (19, true)
  | 0x0B => some (0, true)
  | 0x0C => some (0, true)
  | 0x0D => some (0, true)
  | 0x0E => some (1, false)
  | 0x0F => some (1, true)
  | 0x10 => some (0, true)
  | 0x11 => some (0, true)
  | 0x12 => some (0, true)
  | 0x13 => some (6, true)
  | 0x14 => some (10, true)
  | 0x15 => some (1, true)
  | 0x16 => some (0, true)
  | 0x17 => some (1, true)
  | 0x20 => some (8, false)
  | _ => none

/-- The body length agrees with the table of 12.3 (R188). -/
def lengthAgrees (kind : Byte) (n : Nat) : Bool :=
  match requestLength kind with
  | some (k, true) => n == k
  | some (k, false) => decide (k ≤ n)
  | none => false

/-- RESTARTED is pending or is being sent, so that ready stays deasserted whatever the buffer holds (R179, R186). -/
def State.restartedOutstanding (s : State) : Bool :=
  s.notices.restarted ||
    match s.control.sending with
    | some (.notice r) => r.kind == 0x40
    | _ => false

/-- The conditions under which the control link takes a record: it is the oldest in the inbound buffer, the reply
queue has a free entry, and no device-level reset is under way (R188). -/
def State.takes (s : State) (r : Record) : Bool :=
  s.running && decide (s.control.replies.length < Config.replyCapacity) && (s.control.inbound.head? == some r)

/-- The oldest record leaves the inbound buffer, and ready is asserted again when that brings the count back to 7
(R185, R186). -/
def State.removeOldest (s : State) : State :=
  s.setControl
    { s.control with
      inbound := s.control.inbound.tail
      ready :=
        if s.restartedOutstanding then s.control.ready
        else s.control.ready || decide (s.control.inbound.length = Config.inboundCapacity) }

/-- A reply enters the outbound reply queue as its newest entry (R188, R189). -/
def State.reply (s : State) (r : Record) : State :=
  s.setControl { s.control with replies := s.control.replies ++ [r] }

/-- The control link takes a request of one kind: the record leaves the buffer, its length is judged, its owner
carries it out, and the reply, of the kind plus 0x80 and with the request's tag, enters the queue (R183, R188). When the
link does not take the record, nothing happens. -/
def takeRequest (kind : Byte) (q : Request) (owner : State → Answer) (s : State) : State :=
  if s.takes ⟨kind, q.tag, q.body⟩ then
    let a := if lengthAgrees kind q.body.length then owner s.removeOldest else refuseLength q s.removeOldest
    a.state.reply ⟨kind + 0x80, q.tag, a.body⟩
  else s

/-- The control link takes a record whose kind is no request's: the reply is BAD_KIND, of kind 0xFF, and carries the
received kind (R183, R188). -/
def takeUnknown (kind : Byte) (q : Request) (s : State) : State :=
  if s.takes ⟨kind, q.tag, q.body⟩ && (requestLength kind).isNone then
    s.removeOldest.reply ⟨0xFF, q.tag, [ResultCode.badKind.code, kind]⟩
  else s

end Sys2Proof.Machine
end

