-- ==== Sys2Proof/Machine/Operands.lean ====
section
/-! DEFINITION. The operand forms: the fields of a request body and of a sample body as 12.3 lays them out
(R183), and the codings of the enumerated values that a request carries. -/

namespace Sys2Proof.Machine

/-- The number in the `k` bytes of a body that stand at offset `i`, least significant byte first (R183). -/
def fieldAt (body : List Byte) (i k : Nat) : Nat := leNat ((body.drop i).take k)

/-- The codes of a run of two-byte elements. An odd byte left over makes none. -/
def codePairs : List Byte → List Nat
  | lo :: hi :: rest => leNat [lo, hi] :: codePairs rest
  | _ => []

/-- A list cut into pieces of `k`, each whole, the first argument bounding their number. -/
def pieces (k : Nat) : Nat → List Nat → List (List Nat)
  | 0, _ => []
  | n + 1, xs => if xs.length < k ∨ k = 0 then [] else xs.take k :: pieces k n (xs.drop k)

/-! ### Codings of enumerated operands (R183) -/

/-- Sources: MOUNT 0, MOTOR 1, PANEL 2. -/
def decodeSource (n : Nat) : Option Source :=
  match n with
  | 0 => some .mount
  | 1 => some .motor
  | 2 => some .panel
  | _ => none

/-- The infinity end: LOW 0, HIGH 1. -/
def decodeInfinity (n : Nat) : Option InfinityEnd :=
  match n with
  | 0 => some .low
  | 1 => some .high
  | _ => none

/-- The sections of a profile, by R9. -/
def decodeSection (n : Nat) : Option Section5 :=
  match n with
  | 0 => some .focusNodes
  | 1 => some .zoomNodes
  | 2 => some .irisNodes
  | 3 => some .magnification
  | 4 => some .shading
  | _ => none

/-- REF_MODE: TIGHTEST 0, INFINITY 1, CAPTURED 2. -/
def decodeRefMode (n : Nat) : Option RefMode :=
  match n with
  | 0 => some .tightest
  | 1 => some .infinity
  | 2 => some .captured
  | _ => none

/-- LOSS_ACTION: HOLD 0, FADE 1. -/
def decodeLossAction (n : Nat) : Option LossAction :=
  match n with
  | 0 => some .hold
  | 1 => some .fade
  | _ => none

/-- The ramps that a selector names: BREATHING 0, SHADING 1, BOTH 2 (R138). -/
inductive RampSelector where
  | breathing | shading | both
  deriving DecidableEq, Repr

/-- The ramp selector. -/
def decodeSelector (n : Nat) : Option RampSelector :=
  match n with
  | 0 => some .breathing
  | 1 => some .shading
  | 2 => some .both
  | _ => none

/-! ### A sample body (R23, R24, R25) -/

/-- The fields of a sample body at least eight bytes long, as they stand on the wire. -/
structure SampleFields where
  source   : Nat
  presence : Nat
  time     : Nat
  codes    : List Byte
  deriving DecidableEq, Repr

/-- The fields of a sample body: source, presence set, measurement time, axis codes. -/
def sampleFields (body : List Byte) : SampleFields :=
  ⟨fieldAt body 0 1, fieldAt body 1 1, fieldAt body 2 6, body.drop 8⟩

/-- Whether a presence set names FOCUS (bit 0), ZOOM (bit 1) and IRIS (bit 2). -/
def presentAxes (presence : Nat) : PerAxis Bool :=
  ⟨presence.testBit 0, presence.testBit 1, presence.testBit 2⟩

/-- The presence set is not empty and names no member other than the three axes (R24, R25). -/
def presenceGood (presence : Nat) : Bool := decide (0 < presence ∧ presence < 8)

/-- The number of axes of a presence set. -/
def presentCount (presence : Nat) : Nat := ((presentAxes presence).toList.filter (· = true)).length

/-- The body holds two bytes for each axis of its presence set after its first eight (R24, R25). -/
def sampleLengthGood (f : SampleFields) : Bool := f.codes.length == 2 * presentCount f.presence

/-- The axis codes, one for each axis present, in the order focus, zoom, iris (R183). -/
def sampleCodes (present : PerAxis Bool) (codes : List Nat) : PerAxis (Option Nat) :=
  let afterFocus := if present.focus then codes.tail else codes
  let afterZoom := if present.zoom then afterFocus.tail else afterFocus
  ⟨if present.focus then codes.head? else none,
   if present.zoom then afterFocus.head? else none,
   if present.iris then afterZoom.head? else none⟩

/-- The sample that the fields of a good body make (R23). -/
def sampleOf (f : SampleFields) : Sample :=
  ⟨f.time, sampleCodes (presentAxes f.presence) (codePairs f.codes)⟩

/-! ### Forms that tell one row of the table from another -/

/-- The level byte of a RESTART request with a body of the right length: STREAM 0, WARM 1, COLD 2. -/
def restartLevel (q : Request) : Option Nat :=
  match q.body with
  | [level] => some level.toNat
  | _ => none

/-- The RESTART request is of this level, or of none that is coded, so that the row of this level takes it (R175). -/
def restartFits (level : Nat) (q : Request) : Bool :=
  match restartLevel q with
  | some n => n == level || decide (2 < n)
  | none => true

/-- The form of a RAMP request with a body of the right length: CONTINUE 0, RESTART 1, NOW 2, HALT 3. -/
def rampForm (q : Request) : Option Nat :=
  if q.body.length = 6 then some (fieldAt q.body 1 1) else none

/-- The RAMP request is of this form, or of none that is coded, so that the row of this form takes it (R138). -/
def rampFits (form : Nat) (q : Request) : Bool :=
  match rampForm q with
  | some n => n == form || decide (3 < n)
  | none => true

end Sys2Proof.Machine
end

