-- ==== Sys2Proof/Machine/Profiles.lean ====
section
/-! DEFINITION. The profile store (chapter 1): sizes, allocation, written maps, the checks of closing, and the
slot states. -/

namespace Sys2Proof.Machine

/-! ### Geometry and size -/

/-- The size of a profile in bytes (R2). -/
def Geometry.size (g : Geometry) : Nat :=
  64 + 2 * (g.nf + g.nz + g.ni) + 2 * g.nf * g.nz + 102 * g.nf * g.nz * g.ni

/-- A profile of this geometry occupies a pair of slots (R2). -/
def Geometry.isPair (g : Geometry) : Bool := decide (Config.slotBytes < g.size)

/-- The number of elements of a section (R1). -/
def Geometry.count (g : Geometry) : Section5 → Nat
  | .focusNodes => g.nf
  | .zoomNodes => g.nz
  | .irisNodes => g.ni
  | .magnification => g.nf * g.nz
  | .shading => g.nf * g.nz * g.ni

/-- The geometry checks of R5. -/
def Geometry.admissible (g : Geometry) : Bool :=
  decide (2 ≤ g.nf ∧ g.nf ≤ 16 ∧ 1 ≤ g.nz ∧ g.nz ≤ 8 ∧ 1 ≤ g.ni ∧ g.ni ≤ 8)

/-- The body of a profile just opened: every mark clear (R8). -/
def Body.blank (g : Geometry) : Body :=
  ⟨List.replicate g.nf none, List.replicate g.nz none, List.replicate g.ni none,
   List.replicate (g.nf * g.nz) none, List.replicate (g.nf * g.nz * g.ni) none⟩

/-! ### Written maps -/

/-- The written map of a section (R4). -/
def Body.marks (b : Body) : Section5 → List Bool
  | .focusNodes => b.focusNodes.map Option.isSome
  | .zoomNodes => b.zoomNodes.map Option.isSome
  | .irisNodes => b.irisNodes.map Option.isSome
  | .magnification => b.magnification.map Option.isSome
  | .shading => b.shading.map Option.isSome

/-- The sections in the order of R12. -/
def sections : List Section5 := [.focusNodes, .zoomNodes, .irisNodes, .magnification, .shading]

/-- The number of marks set in a section. -/
def Body.marksSet (b : Body) (k : Section5) : Nat := ((b.marks k).filter (· = true)).length

/-- The number of elements of the whole profile whose marks are clear (R11). -/
def Body.marksClear (b : Body) : Nat :=
  ((sections.flatMap b.marks).filter (· = false)).length

/-- The lowest element of a section whose mark is clear, if any (R12, R20). -/
def Body.lowestClear (b : Body) (k : Section5) : Option Nat := (b.marks k).findIdx? (· = false)

/-- The first clear mark in section order, if any (R12). -/
def Body.firstMissing (b : Body) : Option (Section5 × Nat) :=
  sections.findSome? fun k => (b.lowestClear k).map fun i => (k, i)

/-- A run of elements written over a section's elements from `first` (R11). -/
def overwrite {α : Type} (first : Nat) (run : List α) (xs : List (Option α)) : List (Option α) :=
  xs.take first ++ run.map some ++ xs.drop (first + run.length)

/-- A run of elements stored in a section (R11). An element is its list of codes: one code, or the 51 of a curve
set. -/
def Body.store (b : Body) (k : Section5) (first : Nat) (run : List (List Nat)) : Body :=
  match k with
  | .focusNodes => { b with focusNodes := overwrite first (run.map (·.headD 0)) b.focusNodes }
  | .zoomNodes => { b with zoomNodes := overwrite first (run.map (·.headD 0)) b.zoomNodes }
  | .irisNodes => { b with irisNodes := overwrite first (run.map (·.headD 0)) b.irisNodes }
  | .magnification => { b with magnification := overwrite first (run.map (·.headD 0)) b.magnification }
  | .shading => { b with shading := overwrite first run b.shading }

/-- The bytes of one element of a section (R9). -/
def elementBytes : Section5 → Nat
  | .shading => 102
  | _ => 2

/-- The most elements a PROFILE_WRITE may carry for a section (R9). -/
def runMax : Section5 → Nat
  | .shading => 8
  | _ => 240

/-- The element bytes of a PROFILE_WRITE make a whole number of elements, at least one and no more than the section's
maximum (R9). -/
def runLengthGood (k : Section5) (bytes : Nat) : Bool :=
  decide (bytes % elementBytes k = 0 ∧ 1 ≤ bytes / elementBytes k ∧ bytes / elementBytes k ≤ runMax k)

/-- The elements that the bytes of a PROFILE_WRITE carry (R9). -/
def runElements (k : Section5) (bytes : List Byte) : List (List Nat) :=
  pieces (elementBytes k / 2) (bytes.length / elementBytes k) (codePairs bytes)

/-- A code of an element is in range: a magnification code is at least 16384, a gain code at least 2048 and a node
code is any lens code (R10). -/
def codeGood (k : Section5) (code : Nat) : Bool :=
  match k with
  | .magnification => decide (16384 ≤ code)
  | .shading => decide (2048 ≤ code)
  | _ => true

/-! ### The order check of closing -/

/-- The codes of a section whose marks are all set. -/
def codesOf (xs : List (Option Nat)) : List Nat := xs.map (·.getD 0)

/-- The first index, from `i` on, of a code that is not above the one before it (R13). -/
def firstDisorder : Nat → List Nat → Option Nat
  | i, a :: b :: rest => if b ≤ a then some i else firstDisorder (i + 1) (b :: rest)
  | _, _ => none

/-- The first axis and node out of order, in the order FOCUS, ZOOM, IRIS (R13). -/
def Body.firstUnordered (b : Body) : Option (Axis × Nat) :=
  match firstDisorder 1 (codesOf b.focusNodes) with
  | some i => some (.focus, i)
  | none =>
    match firstDisorder 1 (codesOf b.zoomNodes) with
    | some i => some (.zoom, i)
    | none => (firstDisorder 1 (codesOf b.irisNodes)).map fun i => (.iris, i)

/-! ### Slots -/

/-- The other slot of a slot's pair (R3). -/
def partnerOf (i : Fin 8) : Fin 8 :=
  match i with
  | 0 => 1
  | 1 => 0
  | 2 => 3
  | 3 => 2
  | 4 => 5
  | 5 => 4
  | 6 => 7
  | 7 => 6

/-- The slot is EMPTY. -/
def Slot.isEmpty : Slot → Bool
  | .empty => true
  | _ => false

/-- The slot for a single profile with slot request ANY: the lowest EMPTY slot whose partner is not EMPTY, else the
lowest EMPTY slot (R6). -/
def chooseSingle (slots : Eight Slot) : Option (Fin 8) :=
  match indices8.find? fun i => (slots.get i).isEmpty && !(slots.get (partnerOf i)).isEmpty with
  | some i => some i
  | none => indices8.find? fun i => (slots.get i).isEmpty

/-- The slot for a pair profile with slot request ANY: the lowest even slot that is EMPTY with its partner (R7). -/
def choosePair (slots : Eight Slot) : Option (Fin 8) :=
  indices8.find? fun i =>
    i.val % 2 == 0 && (slots.get i).isEmpty && (slots.get (partnerOf i)).isEmpty

/-- A named slot can take the profile (R7). -/
def namedSlotFits (slots : Eight Slot) (pair : Bool) (i : Fin 8) : Bool :=
  if pair then i.val % 2 == 0 && (slots.get i).isEmpty && (slots.get (partnerOf i)).isEmpty
  else (slots.get i).isEmpty

/-- The chosen slot becomes OPEN with a new profile, and its partner PARTNER for a pair profile (R8). -/
def openSlot (slots : Eight Slot) (i : Fin 8) (p : Profile) : Eight Slot :=
  let slots := slots.set i (.live .opened p)
  if p.pair then slots.set (partnerOf i) (.partner i) else slots

/-- A slot becomes EMPTY, and its partner with it for a pair profile (R15). -/
def emptySlot (slots : Eight Slot) (i : Fin 8) (pair : Bool) : Eight Slot :=
  let slots := slots.set i .empty
  if pair then slots.set (partnerOf i) .empty else slots

/-- The slot IN_USE with its profile, if any (R18, R19). -/
def inUse (slots : Eight Slot) : Option (Fin 8 × Profile) :=
  indices8.findSome? fun i =>
    match slots.get i with
    | .live .inUse p => some (i, p)
    | _ => none

/-- A slot leaves IN_USE and becomes READY (R17). -/
def Slot.leaveUse : Slot → Slot
  | .live .inUse p => .live .ready p
  | x => x

/-- A READY slot becomes IN_USE (R17). -/
def Slot.enterUse : Slot → Slot
  | .live .ready p => .live .inUse p
  | x => x

/-- The slot states after an apply that changes the active PROFILE from `old` to `new` (R17). -/
def changeUse (slots : Eight Slot) (old new : Option (Fin 8)) : Eight Slot :=
  if old = new then slots
  else
    let slots :=
      match old with
      | some i => slots.set i (slots.get i).leaveUse
      | none => slots
    match new with
    | some j => slots.set j (slots.get j).enterUse
    | none => slots

/-- The slot is OPEN. -/
def Slot.isOpened : Slot → Bool
  | .live .opened _ => true
  | _ => false

/-- One slot after a WARM restart (R21): an OPEN slot and the PARTNER of one become EMPTY, IN_USE becomes READY. -/
def warmSlot (slots : Eight Slot) : Slot → Slot
  | .live .opened _ => .empty
  | .partner lower => if (slots.get lower).isOpened then .empty else .partner lower
  | x => x.leaveUse

/-- The slots after a WARM restart (R21). -/
def warmSlots (slots : Eight Slot) : Eight Slot := slots.map (warmSlot slots)

/-- A slot is held: the staged PROFILE names it and PROFILE's changed flag is set (R16). -/
def Settings.holds (x : Settings) (i : Fin 8) : Bool :=
  x.changed.profile && x.staged.profile == some i

end Sys2Proof.Machine
end

