-- ==== Sys2Proof/Machine/Settings.lean ====
section
/-! DEFINITION. The settings stage (chapter 8): the values of a STAGE_WRITE, the checks on them, and the apply. -/

namespace Sys2Proof.Machine

/-- A parameter of R125 with a value for it. -/
inductive Setting where
  | profile (slot : Option (Fin 8))
  | refMode (m : RefMode)
  | refMag (code : Nat)
  | focusOrder (order : List Source)
  | zoomOrder (order : List Source)
  | irisOrder (order : List Source)
  | coastLimit (limit : Nat)
  | lostLimit (limit : Nat)
  | lossAction (action : LossAction)
  | fadeFrames (frames : Nat)
  deriving DecidableEq, Repr

/-- The number of a setting's parameter (R125). -/
def Setting.number : Setting → Nat
  | .profile _ => 0
  | .refMode _ => 1
  | .refMag _ => 2
  | .focusOrder _ => 3
  | .zoomOrder _ => 4
  | .irisOrder _ => 5
  | .coastLimit _ => 6
  | .lostLimit _ => 7
  | .lossAction _ => 8
  | .fadeFrames _ => 9

/-- The length that a parameter's form calls for (R127, R183). A source order has none of its own. -/
def settingLength (number : Nat) : Option Nat :=
  match number with
  | 0 => some 1
  | 1 => some 1
  | 2 => some 2
  | 6 => some 4
  | 7 => some 4
  | 8 => some 1
  | 9 => some 1
  | _ => none

/-- A source order: one to three distinct sources (R32). -/
def decodeOrder (bytes : List Byte) : Option (List Source) :=
  match bytes.mapM fun b => decodeSource b.toNat with
  | some order => if 1 ≤ order.length ∧ order.length ≤ 3 ∧ order.Nodup then some order else none
  | none => none

/-- A number within a range (R125). -/
def inRange (lo hi n : Nat) : Option Nat := if lo ≤ n ∧ n ≤ hi then some n else none

/-- The setting that a parameter number and a value of the right length make, when the value lies in the parameter's
range (R125, R127, R129). -/
def decodeSetting (number : Nat) (value : List Byte) : Option Setting :=
  match number with
  | 0 =>
    if leNat value = 0xFF then some (.profile none)
    else (index8 (leNat value)).map fun i => .profile (some i)
  | 1 => (decodeRefMode (leNat value)).map .refMode
  | 2 => (inRange 16384 65535 (leNat value)).map .refMag
  | 3 => (decodeOrder value).map .focusOrder
  | 4 => (decodeOrder value).map .zoomOrder
  | 5 => (decodeOrder value).map .irisOrder
  | 6 => (inRange 0 100000 (leNat value)).map .coastLimit
  | 7 => (inRange 1000 2000000 (leNat value)).map .lostLimit
  | 8 => (decodeLossAction (leNat value)).map .lossAction
  | 9 => (inRange 1 255 (leNat value)).map .fadeFrames
  | _ => none

/-- The pairing check of R128 against the staged value of the other limit. -/
def pairingGood (staged : Params) : Setting → Bool
  | .coastLimit n => decide (n ≤ staged.lostLimit)
  | .lostLimit n => decide (staged.coastLimit ≤ n)
  | _ => true

/-- The slot may be named by PROFILE: it is READY or IN_USE (R129). -/
def Slot.usable : Slot → Bool
  | .live .ready _ => true
  | .live .inUse _ => true
  | _ => false

/-- The slot check of R129. -/
def slotGood (slots : Eight Slot) : Setting → Bool
  | .profile (some i) => (slots.get i).usable
  | _ => true

/-- A copy of the parameters with one written. -/
def Params.write (p : Params) : Setting → Params
  | .profile x => { p with profile := x }
  | .refMode x => { p with refMode := x }
  | .refMag x => { p with refMag := x }
  | .focusOrder x => { p with focusOrder := x }
  | .zoomOrder x => { p with zoomOrder := x }
  | .irisOrder x => { p with irisOrder := x }
  | .coastLimit x => { p with coastLimit := x }
  | .lostLimit x => { p with lostLimit := x }
  | .lossAction x => { p with lossAction := x }
  | .fadeFrames x => { p with fadeFrames := x }

/-- The changed flag of one parameter set. -/
def Changed.mark (c : Changed) : Setting → Changed
  | .profile _ => { c with profile := true }
  | .refMode _ => { c with refMode := true }
  | .refMag _ => { c with refMag := true }
  | .focusOrder _ => { c with focusOrder := true }
  | .zoomOrder _ => { c with zoomOrder := true }
  | .irisOrder _ => { c with irisOrder := true }
  | .coastLimit _ => { c with coastLimit := true }
  | .lostLimit _ => { c with lostLimit := true }
  | .lossAction _ => { c with lossAction := true }
  | .fadeFrames _ => { c with fadeFrames := true }

/-- The ten flags in the order of the parameters' numbers. -/
def Changed.toList (c : Changed) : List Bool :=
  [c.profile, c.refMode, c.refMag, c.focusOrder, c.zoomOrder, c.irisOrder, c.coastLimit, c.lostLimit, c.lossAction,
   c.fadeFrames]

/-- The ten values of a copy in the order of the parameters' numbers. -/
def Params.toList (p : Params) : List Setting :=
  [.profile p.profile, .refMode p.refMode, .refMag p.refMag, .focusOrder p.focusOrder, .zoomOrder p.zoomOrder,
   .irisOrder p.irisOrder, .coastLimit p.coastLimit, .lostLimit p.lostLimit, .lossAction p.lossAction,
   .fadeFrames p.fadeFrames]

/-- An accepted STAGE_WRITE (R127). -/
def Settings.write (x : Settings) (v : Setting) : Settings :=
  { x with staged := x.staged.write v, changed := x.changed.mark v }

/-- Whether the staged value of one parameter differs from the active one. -/
def Settings.differs (x : Settings) (v : Setting) : Bool :=
  x.staged.toList[v.number]? != x.active.toList[v.number]?

/-- The active copies with those staged values whose changed flag is set (R131). -/
def Settings.merged (x : Settings) : Params :=
  { profile := if x.changed.profile then x.staged.profile else x.active.profile
    refMode := if x.changed.refMode then x.staged.refMode else x.active.refMode
    refMag := if x.changed.refMag then x.staged.refMag else x.active.refMag
    focusOrder := if x.changed.focusOrder then x.staged.focusOrder else x.active.focusOrder
    zoomOrder := if x.changed.zoomOrder then x.staged.zoomOrder else x.active.zoomOrder
    irisOrder := if x.changed.irisOrder then x.staged.irisOrder else x.active.irisOrder
    coastLimit := if x.changed.coastLimit then x.staged.coastLimit else x.active.coastLimit
    lostLimit := if x.changed.lostLimit then x.staged.lostLimit else x.active.lostLimit
    lossAction := if x.changed.lossAction then x.staged.lossAction else x.active.lossAction
    fadeFrames := if x.changed.fadeFrames then x.staged.fadeFrames else x.active.fadeFrames }

/-- The settings stage at the moment an apply takes effect (R131). -/
def Settings.applied (x : Settings) : Settings := ⟨x.merged, x.staged, Changed.clear, .none⟩

/-- An apply takes effect: the settings stage copies, and the profile store changes slot states when PROFILE is among the
parameters copied (R17, R131). -/
def State.applyNow (s : State) : State :=
  let slots :=
    if s.settings.changed.profile then changeUse s.slots s.settings.active.profile s.settings.staged.profile else s.slots
  (s.setSlots slots).setSettings s.settings.applied

/-- The settings stage after STAGE_CANCEL (R133). -/
def Settings.cancelled (x : Settings) : Settings := ⟨x.active, x.active, Changed.clear, .none⟩

/-- The sooner of the present apply-pending state and a request's alignment (R130). -/
def ApplyPending.raise (present request : ApplyPending) : ApplyPending :=
  match present, request with
  | .band, _ => .band
  | _, .band => .band
  | _, .frame => .frame
  | p, .none => p

/-- A capture writes m into the active REF_MAG, and into the staged one when its changed flag is clear (R67). -/
def Settings.capture (x : Settings) (m : Nat) : Settings :=
  { x with
    active := { x.active with refMag := m }
    staged := if x.changed.refMag then x.staged else { x.staged with refMag := m } }

end Sys2Proof.Machine
end

