-- ==== Sys2Proof/Machine/Tracker.lean ====
section
/-! DEFINITION. The sample intake (chapter 2) and the lens tracker (chapter 3). -/

namespace Sys2Proof.Machine

/-! ### The intake -/

/-- The measurement time of the newest sample of a history, if any. -/
def newestTime (history : List Sample) : Option Nat := history.getLast?.map (·.time)

/-- The sample is later than the newest of its history, or the history is empty (R26). -/
def inOrder (history : List Sample) (x : Sample) : Bool :=
  match newestTime history with
  | some t => decide (t < x.time)
  | none => true

/-- The sample becomes the newest of its history, and the oldest leaves when the history already held eight (R27). -/
def addSample (history : List Sample) (x : Sample) : List Sample :=
  (if history.length < Config.historyDepth then history else history.tail) ++ [x]

/-- The sample intake takes a sample of a source: it joins the history, or it is discarded and counted (R26, R27,
R29). -/
def Intake.take (n : Intake) (k : Source) (x : Sample) : Intake :=
  let history := n.histories.get k
  if inOrder history x then { n with histories := n.histories.set k (addSample history x) }
  else { n with outOfOrder := n.outOfOrder.set k (saturatingSucc Config.countMax (n.outOfOrder.get k)) }

/-! ### Judging one source -/

/-- The samples of a history that carry an axis, as time and code, oldest first (R30). -/
def carrying (a : Axis) (history : List Sample) : List (Nat × Nat) :=
  history.filterMap fun x => (x.codes.get a).map fun v => (x.time, v)

/-- The value at band time `t` of a source that is FRESH (R41): the oldest code when `t` is not after it, else the
interpolation between the two samples that bracket `t`, else the newest code. -/
def freshValue (t : Nat) : List (Nat × Nat) → Nat
  | [] => 0
  | [(_, v)] => v
  | (ta, va) :: (tb, vb) :: rest =>
    if t ≤ ta then va
    else if t < tb then interpolate va vb (t - ta) (tb - ta)
    else freshValue t ((tb, vb) :: rest)

/-- The value at band time `t` of a source that is COASTING, from its samples newest first (R42). -/
def coastValue (t : Nat) : List (Nat × Nat) → Nat
  | (t1, v1) :: (t0, v0) :: _ =>
    let x := (v1 : Int) + roundDiv (((v1 : Int) - v0) * ((t : Int) - t1)) (t1 - t0)
    if x < 0 then 0 else if 65535 < x then 65535 else x.toNat
  | [(_, v1)] => v1
  | [] => 0

/-- The state of a source at band time `t` and its value, or none when the source is LOST (R40 to R43). -/
def judgeSource (coast lost t : Nat) (xs : List (Nat × Nat)) : Option (AxisState × Nat) :=
  match xs.getLast? with
  | none => none
  | some (tn, vn) =>
    if t ≤ tn then some (.fresh, freshValue t xs)
    else if t - tn ≤ coast then some (.coasting, coastValue t xs.reverse)
    else if t - tn ≤ lost then some (.holding, vn)
    else none

/-! ### Choosing the source and writing the track -/

/-- The first source of an order that is not LOST, with its state and value (R45). -/
def chooseSource (p : Params) (h : PerSource (List Sample)) (a : Axis) (t : Nat) (order : List Source) :
    Option (Source × AxisState × Nat) :=
  order.findSome? fun k =>
    (judgeSource p.coastLimit p.lostLimit t (carrying a (h.get k))).map fun r => (k, r.1, r.2)

/-- The track after an evaluation whose chosen source is `choice` (R46, R47). -/
def Track.write (x : Track) (choice : Option (Source × AxisState × Nat)) : Track :=
  match choice with
  | some (k, state, v) => ⟨some k, state, some v, x.source, x.state⟩
  | none =>
    match x.held with
    | some v => ⟨none, .lost, some v, x.source, x.state⟩
    | none => ⟨none, .none, none, x.source, x.state⟩

/-- The active source order of an axis (R32). -/
def Params.order (p : Params) : Axis → List Source
  | .focus => p.focusOrder
  | .zoom => p.zoomOrder
  | .iris => p.irisOrder

/-- One axis evaluated at band time `t` (R39 to R48). -/
def evaluateAxis (s : State) (t : Nat) (a : Axis) : Track :=
  (s.tracks.get a).write
    (chooseSource s.settings.active s.intake.histories a t (s.settings.active.order a))

/-- The three axes evaluated at band time `t`. -/
def evaluated (s : State) (t : Nat) : PerAxis Track :=
  ⟨evaluateAxis s t .focus, evaluateAxis s t .zoom, evaluateAxis s t .iris⟩

/-- The evaluation that wrote this track changed the source in use (R50). -/
def Track.changedSource (x : Track) : Bool := x.source != x.prevSource

/-- The lens evaluation of a band plan (R39): it writes the three tracks, and sets the SOURCE pending flag when it
changes the source in use of any axis (R50). -/
def State.evaluate (s : State) (t : Nat) : State :=
  let tracks := evaluated s t
  let changed := tracks.toList.any Track.changedSource
  (s.setTracks tracks).setNotices { s.notices with source := s.notices.source || changed }

end Sys2Proof.Machine
end

