-- ==== Sys2Proof/Machine/Breathing.lean ====
section
/-! DEFINITION. The breathing arithmetic (chapter 5): grid position, magnification, reference and scale. -/

namespace Sys2Proof.Machine

/-- The axis value clamped to the span of the axis's nodes (R70). -/
def clampToNodes (nodes : List Nat) (v : Nat) : Nat :=
  if v < nodes.headD 0 then nodes.headD 0
  else if nodes.getLastD 0 < v then nodes.getLastD 0
  else v

/-- The interval index: the largest index from 0 to N−2 whose node code is not above `c` (R71). -/
def intervalIndex (nodes : List Nat) (c : Nat) : Nat :=
  ((List.range (nodes.length - 1)).filter fun i => nodes.getD i 0 ≤ c).getLastD 0

/-- The grid position of a value on an axis (R70 to R72). An axis with one node is not used: index 0, fraction 0, and no
clamp acts. -/
def gridPosition (nodes : List Nat) (v : Nat) : GridPos :=
  if nodes.length ≤ 1 then ⟨0, 0, true⟩
  else
    let c := clampToNodes nodes v
    let i := intervalIndex nodes c
    ⟨i, (c - nodes.getD i 0) * 65536 / (nodes.getD (i + 1) 0 - nodes.getD i 0), c == v⟩

/-- The grid positions of the three axes on a profile. -/
def gridPositions (p : Profile) (values : PerAxis Nat) : PerAxis GridPos :=
  ⟨gridPosition (codesOf p.body.focusNodes) values.focus,
   gridPosition (codesOf p.body.zoomNodes) values.zoom,
   gridPosition (codesOf p.body.irisNodes) values.iris⟩

/-- The magnification table's entry at focus node `i` and zoom node `j`, element j·NF + i (R1, R73). -/
def Profile.magnificationAt (p : Profile) (i j : Nat) : Nat :=
  (codesOf p.body.magnification).getD (j * p.geometry.nf + i) 0

/-- The column value at focus node `i` and the band's zoom position (R73). -/
def Profile.column (p : Profile) (zoom : GridPos) (i : Nat) : Nat :=
  if p.geometry.nz ≤ 1 then p.magnificationAt i 0
  else interpolate (p.magnificationAt i zoom.i) (p.magnificationAt i (zoom.i + 1)) zoom.u 65536

/-- The magnification of a band (R74). -/
def Profile.magnification (p : Profile) (g : PerAxis GridPos) : Nat :=
  interpolate (p.column g.zoom g.focus.i) (p.column g.zoom (g.focus.i + 1)) g.focus.u 65536

/-- The reference magnification (R75 to R78). -/
def Profile.reference (p : Profile) (zoom : GridPos) (mode : RefMode) (refMag : Nat) : Nat :=
  match mode with
  | .tightest => ((List.range p.geometry.nf).map (p.column zoom)).foldl max 0
  | .infinity =>
    match p.infinity with
    | .high => p.column zoom (p.geometry.nf - 1)
    | .low => p.column zoom 0
  | .captured => refMag

/-- The raw scale (R80). -/
def rawScale (mRef m : Nat) : Nat := (roundDiv ((mRef : Int) * 65536) m).toNat

/-- The clamped scale (R80). -/
def clampScale (sMax sRaw : Nat) : Nat :=
  if sRaw < Config.unityScale then Config.unityScale else if sMax < sRaw then sMax else sRaw

/-- The effective scale (R82). -/
def effectiveScale (s kb : Nat) : Nat := drawToward Config.unityScale s kb

end Sys2Proof.Machine
end

