-- ==== Sys2Proof/Machine/Shading.lean ====
section
/-! DEFINITION. The shading arithmetic (chapter 6): the blend of the corner curve sets, the effective knots, the
radius code and the gain. -/

namespace Sys2Proof.Machine

/-- The curve set at focus node `i`, zoom node `j` and iris node `k`, element (k·NZ + j)·NF + i (R1, R89). -/
def Profile.curveSet (p : Profile) (i j k : Nat) : List Nat :=
  (p.body.shading.getD ((k * p.geometry.nz + j) * p.geometry.nf + i) none).getD []

/-- One pass of the blend on every knot of two curve sets (R90). -/
def blendSets (u : Nat) (a b : List Nat) : List Nat := List.zipWith (fun x y => interpolate x y u 65536) a b

/-- The iris pass at one focus corner and one zoom corner (R90). -/
def Profile.irisPass (p : Profile) (iris : GridPos) (i j : Nat) : List Nat :=
  if p.geometry.ni ≤ 1 then p.curveSet i j 0
  else blendSets iris.u (p.curveSet i j iris.i) (p.curveSet i j (iris.i + 1))

/-- The zoom pass at one focus corner (R90). -/
def Profile.zoomPass (p : Profile) (g : PerAxis GridPos) (i : Nat) : List Nat :=
  if p.geometry.nz ≤ 1 then p.irisPass g.iris i 0
  else blendSets g.zoom.u (p.irisPass g.iris i g.zoom.i) (p.irisPass g.iris i (g.zoom.i + 1))

/-- The blended knots of a band: iris first, then zoom, then focus (R90). -/
def Profile.blendedKnots (p : Profile) (g : PerAxis GridPos) : List Nat :=
  blendSets g.focus.u (p.zoomPass g g.focus.i) (p.zoomPass g (g.focus.i + 1))

/-- The effective knots (R92). -/
def effectiveKnots (kv : Nat) (blended : List Nat) : List Nat :=
  blended.map fun g => drawToward Config.unityGain g kv

/-- The knots of a neutral plan (R60, R94). -/
def neutralKnots : List Nat := List.replicate 51 Config.unityGain

/-- Knot q of colour c, red 0, green 1, blue 2, of the 51 knots of a plan (R1, R59). -/
def knotAt (knots : List Nat) (c q : Nat) : Nat := knots.getD (17 * c + q) Config.unityGain

/-- The radius code of a source position with offsets dx and dy from the centre, in 1/256 pixel (R97). -/
def radiusCode (ax ay : Nat) (dx dy : Int) : Nat :=
  min 65536 (((dx * dx).toNat * (ay * ay) + (dy * dy).toNat * (ax * ax)) / (ax * ax * (ay * ay)))

/-- The gain of a colour at a radius code (R98). -/
def gainAt (knots : List Nat) (c rho : Nat) : Nat :=
  let k := rho / 4096
  if k = 16 then knotAt knots c 16
  else interpolate (knotAt knots c k) (knotAt knots c (k + 1)) (rho % 4096) 4096

end Sys2Proof.Machine
end

