-- ==== Sys2Proof/Machine/Ramps.lean ====
section
/-! DEFINITION. The ramp unit (chapter 9): the four forms of a RAMP request, the steps at an announced frame header,
the loss fade and the effective strengths. -/

namespace Sys2Proof.Machine

/-- CONTINUE or RESTART places a command in the ramp's buffer (R139). -/
def Ramp.buffer (r : Ramp) (form : BufferedForm) (target total : Nat) : Ramp :=
  { r with buffered := some ⟨form, target, total⟩ }

/-- NOW (R140). -/
def Ramp.now (r : Ramp) (target total : Nat) : Ramp :=
  { value := if total = 0 then target else r.value
    target, start := r.value, total, done := 0, running := decide (0 < total), buffered := none }

/-- HALT (R141). -/
def Ramp.halt (r : Ramp) : Ramp := { r with running := false, target := r.value, buffered := none }

/-- The step of an announced frame header, and whether it completes the run (R142, R148). -/
def Ramp.step (r : Ramp) : Ramp × Bool :=
  if r.running then
    let n := r.done + 1
    ({ r with
        done := n
        value := interpolate r.start r.target n r.total
        running := decide (n < r.total) },
     decide (r.total ≤ n))
  else (r, false)

/-- The start of a buffered command at an announced frame header, after the step, and whether the command jumps to its
target (R143, R148). -/
def Ramp.startBuffered (r : Ramp) : Ramp × Bool :=
  match r.running, r.buffered with
  | false, some b =>
    let start :=
      match b.form with
      | .continue => r.value
      | .restart => 0
    ({ value := if b.total = 0 then b.target else start
       target := b.target, start, total := b.total, done := 0
       running := decide (0 < b.total), buffered := none },
     b.total == 0)
  | _, _ => (r, false)

/-- The ramp after an announced frame header, and whether a run completed at it (R142, R143, R148). -/
def Ramp.atHeader (r : Ramp) : Ramp × Bool :=
  let a := r.step
  let b := a.1.startBuffered
  (b.1, a.2 || b.2)

/-- An axis that the plan's profile used was LOST in the latest plan (R145, R65). -/
def lossSeen (latest : Option Plan) : Bool :=
  match latest with
  | some p =>
    (p.used.focus && p.axes.focus.state == .lost) || (p.used.zoom && p.axes.zoom.state == .lost)
      || (p.used.iris && p.axes.iris.state == .lost)
  | none => false

/-- The fade factor after an announced frame header (R145). -/
def fadeAtHeader (action : LossAction) (frames : Nat) (loss : Bool) (f : Nat) : Nat :=
  let step := ceilDiv 256 frames
  if action = .fade ∧ loss = true then f - step else min 256 (f + step)

/-- An effective strength: the ramp's value scaled by the fade factor (R146). -/
def effectiveStrength (value f : Nat) : Nat := (roundDiv ((value : Int) * f) 256).toNat

/-- The effective breathing strength k_b (R146). -/
def RampUnit.kb (u : RampUnit) : Nat := effectiveStrength u.breathing.value u.fade

/-- The effective shading strength k_v (R146). -/
def RampUnit.kv (u : RampUnit) : Nat := effectiveStrength u.shading.value u.fade

/-- Some ramp completes a run at the next announced frame header (R148). -/
def RampUnit.completes (u : RampUnit) : Bool := u.breathing.atHeader.2 || u.shading.atHeader.2

/-- The ramp unit at an announced frame header: each ramp steps and may start its buffered command, and the fade factor
moves (R142 to R145). A completed run sets the RAMP pending flag (R148). -/
def State.announceToRamps (s : State) : State :=
  let u := s.ramps
  let fade := fadeAtHeader s.settings.active.lossAction s.settings.active.fadeFrames (lossSeen s.planner.latest) u.fade
  (s.setRamps ⟨u.breathing.atHeader.1, u.shading.atHeader.1, fade⟩).setNotices
    { s.notices with ramp := s.notices.ramp || u.completes }

/-- A form's effect on the ramps that a selector names (R138). -/
def RampUnit.select (u : RampUnit) (k : RampSelector) (f : Ramp → Ramp) : RampUnit :=
  match k with
  | .breathing => { u with breathing := f u.breathing }
  | .shading => { u with shading := f u.shading }
  | .both => { u with breathing := f u.breathing, shading := f u.shading }

end Sys2Proof.Machine
end

