-- ==== Sys2Proof/Machine/Flags.lean ====
section
/-! DEFINITION. The flags: the conditions of a band plan (R61, R62), the watches that test them (chapter 10), the
fault record (R169) and the pending flags of the notice state (R157, R158). -/

namespace Sys2Proof.Machine

/-! ### Band conditions -/

/-- The axis has a source: its state is neither LOST nor NONE (R61). -/
def AxisState.live : AxisState → Bool
  | .lost => false
  | .none => false
  | _ => true

/-- Bit n set when condition n holds, with condition 12 given (R61). -/
def Conditions.bits (c : Conditions) (inZone : Bool) : BitVec 13 :=
  BitVec.ofBoolListLE
    [c.focusFresh, c.focusLive, c.zoomLive, c.irisLive, c.focusInRange, c.zoomInRange, c.irisInRange,
     c.scaleClampedLow, c.scaleClampedHigh, c.profilePresent, c.lensKnown, c.fullStrength, inZone]

/-- Condition 12 for a zone: the plan's focus value is present and lies within it (R61). -/
def inZone (lo hi : Nat) (focus : Option Nat) : Bool :=
  match focus with
  | some v => decide (lo ≤ v ∧ v ≤ hi)
  | none => false

/-! ### Watches -/

/-- The selected conditions whose value in the plan differs from the expected value (R152, R161). -/
def Watch.differing (w : Watch) (p : Plan) : BitVec 13 :=
  w.selection &&& (p.conditions.bits (inZone w.lo w.hi p.axes.focus.value) ^^^ w.expected)

/-- The watch conforms to the plan (R152). -/
def Watch.conforms (w : Watch) (p : Plan) : Bool := w.differing p == 0

/-- One watch evaluated against a plan (R152, R153). A watch with an empty selection is not evaluated. -/
def Watch.evaluate (w : Watch) (p : Plan) : Watch :=
  if w.selection = 0 then w
  else
    match w.baseline, w.conforms p with
    | .unknown, true => { w with baseline := .conform }
    | .unknown, false => { w with baseline := .nonconform }
    | .conform, true => w
    | .conform, false =>
      { w with baseline := .nonconform, tripped := true, owed := w.owed || decide (1 ≤ w.level) }
    | .nonconform, true => { w with baseline := .conform }
    | .nonconform, false => w

/-- The plan is offered to the watch unit (R58 step 8). -/
def State.offerToWatches (s : State) (p : Plan) : State := s.setWatches (s.watches.map (·.evaluate p))

/-- The byte that names the watches, or slots, at which a flag is set, bit n for number n (R184). -/
def flagByte (v : Eight Bool) : Byte := BitVec.ofBoolListLE v.toList

/-- The tripped set (R150). -/
def trippedSet (watches : Eight Watch) : Byte := flagByte (watches.map (·.tripped))

/-- Every watch baseline returned to UNKNOWN (R163, R175). -/
def resetBaselines (watches : Eight Watch) : Eight Watch := watches.map fun w => { w with baseline := .unknown }

/-! ### The fault record -/

/-- The pixel path reports a stream fault (R169): it fills an empty record and sets the FAULT pending flag, or it
increases the following count of a full one. -/
def State.reportFault (s : State) (kind : FaultKind) (frame row : Option Nat) : State :=
  match s.faults with
  | none => (s.setFaults (some ⟨kind, frame, row, 0⟩)).setNotices { s.notices with fault := true }
  | some e => s.setFaults (some { e with following := saturatingSucc Config.followingMax e.following })

/-! ### Pending flags -/

/-- The number n of a notice kind 0x40 + n (R183). -/
inductive NoticeKind where
  | restarted | fault | watch | source | framing | ramp | stream | summary
  deriving DecidableEq, Repr

/-- Bit n of the subscription set (R162). -/
def NoticeKind.bit : NoticeKind → Nat
  | .restarted => 0
  | .fault => 1
  | .watch => 2
  | .source => 3
  | .framing => 4
  | .ramp => 5
  | .stream => 6
  | .summary => 7

/-- The kind is in the subscription set (R162). -/
def subscribed (set : BitVec 8) (k : NoticeKind) : Bool := set.getLsbD k.bit

/-- The set of kinds whose pending flags are set, or, for WATCH, whose notice is owed by any watch (R162). -/
def pendingKinds (n : Notices) (watches : Eight Watch) : BitVec 8 :=
  BitVec.ofBoolListLE
    [n.restarted, n.fault, watches.toList.any (·.owed), n.source, n.framing, n.ramp, n.stream, n.summary]

/-- The pixel path hands over a frame report (R158): it is counted, and it is retained with the FRAME_SUMMARY flag set
when FRAME_SUMMARY is subscribed. -/
def State.handOver (s : State) (report : FrameReport) : State :=
  let counted := { s.notices with framesCount := saturatingSucc Config.countMax s.notices.framesCount }
  s.setNotices
    (if subscribed s.control.subscriptions .summary then { counted with retained := some report, summary := true }
     else counted)

end Sys2Proof.Machine
end

