-- ==== Sys2Proof/Machine/Planner.lean ====
section
/-! DEFINITION. The band planner (chapter 4): band geometry and times, the sequence of one band plan, the plan queue and
the framing capture; and what a plan adds to the frame report (R173). -/

namespace Sys2Proof.Machine

/-! ### Band geometry and time -/

/-- The rows of band `b` (R54). -/
def StreamConfig.bandRows (c : StreamConfig) (b : Nat) : Nat := min c.height ((b + 1) * c.hb) - b * c.hb

/-- The last output row of band `b` (R54, R64). -/
def StreamConfig.lastRow (c : StreamConfig) (b : Nat) : Nat := min c.height ((b + 1) * c.hb) - 1

/-- The row period used for band times: a carried 0 is taken as 1 ns (R55, R108). -/
def bandPeriod (h : FrameHeader) : Nat := max 1 h.rowPeriod.toNat

/-- The band time (R55). -/
def bandTime (c : StreamConfig) (h : FrameHeader) (b : Nat) : Nat :=
  h.t0.toNat + (2 * (b * c.hb) + c.bandRows b - 1) * bandPeriod h / 2000

/-! ### The parts of a plan -/

/-- The axes that a profile uses: focus always, zoom and iris when they have more than one node (R59, R60). -/
def Profile.used (p : Profile) : PerAxis Bool :=
  ⟨true, decide (1 < p.geometry.nz), decide (1 < p.geometry.ni)⟩

/-- No axis that the profile uses is in NONE (R60). -/
def usedAxesKnown (used : PerAxis Bool) (tracks : PerAxis Track) : Bool :=
  (!used.focus || tracks.focus.state != .none) && (!used.zoom || tracks.zoom.state != .none)
    && (!used.iris || tracks.iris.state != .none)

/-- The axis values handed to the planner (R39); 0 stands in for the absent value of an axis that is not used. -/
def axisValues (tracks : PerAxis Track) : PerAxis Nat := tracks.map fun x => x.held.getD 0

/-- What a plan records of the tracks, with the grid positions of a plan that is not neutral (R59). -/
def planAxes (tracks : PerAxis Track) (grid : Option (PerAxis GridPos)) : PerAxis PlanAxis :=
  let one (x : Track) (g : Option GridPos) : PlanAxis := ⟨x.source, x.state, x.held, g⟩
  ⟨one tracks.focus (grid.map (·.focus)), one tracks.zoom (grid.map (·.zoom)), one tracks.iris (grid.map (·.iris))⟩

/-- The conditions of a plan (R61, R62). `grid` and the scale conditions are those of a plan that is not neutral. -/
def planConditions (tracks : PerAxis Track) (present known : Bool) (grid : Option (PerAxis GridPos))
    (low high : Bool) (kb kv : Nat) : Conditions :=
  { focusFresh := tracks.focus.state == .fresh
    focusLive := tracks.focus.state.live
    zoomLive := tracks.zoom.state.live
    irisLive := tracks.iris.state.live
    focusInRange := (grid.map (·.focus.inRange)).getD false
    zoomInRange := (grid.map (·.zoom.inRange)).getD false
    irisInRange := (grid.map (·.iris.inRange)).getD false
    scaleClampedLow := low
    scaleClampedHigh := high
    profilePresent := present
    lensKnown := known
    fullStrength := kb == Config.fullStrength && kv == Config.fullStrength }

/-- The identity of a plan: frame number, band index and band time (R59). -/
structure PlanId where
  frameNumber : Nat
  band        : Nat
  time        : Nat
  deriving DecidableEq, Repr

/-- A neutral plan (R60, R62, R84, R94). -/
def neutralPlan (d : PlanId) (s : State) (slot : Option (Fin 8)) (used : PerAxis Bool) : Plan :=
  let known := match slot with
    | some _ => usedAxesKnown used s.tracks
    | none => s.tracks.focus.state != .none
  { frameNumber := d.frameNumber, band := d.band, time := d.time, slot, used
    axes := planAxes s.tracks none
    breathing := none
    s := Config.unityScale
    sEff := Config.unityScale
    kb := s.ramps.kb
    kv := s.ramps.kv
    knots := neutralKnots
    conditions := planConditions s.tracks slot.isSome known none false false s.ramps.kb s.ramps.kv }

/-- A plan that is not neutral, from the settings as a capture of step 4 has left them (R58, R70 to R92). -/
def correctedPlan (d : PlanId) (s : State) (sMax : Nat) (slot : Fin 8) (p : Profile) : Plan :=
  let grid := gridPositions p (axisValues s.tracks)
  let m := p.magnification grid
  let mRef := p.reference grid.zoom s.settings.active.refMode s.settings.active.refMag
  let sRaw := rawScale mRef m
  let scale := clampScale sMax sRaw
  { frameNumber := d.frameNumber, band := d.band, time := d.time, slot := some slot, used := p.used
    axes := planAxes s.tracks (some grid)
    breathing := some ⟨m, mRef, sRaw⟩
    s := scale
    sEff := effectiveScale scale s.ramps.kb
    kb := s.ramps.kb
    kv := s.ramps.kv
    knots := effectiveKnots s.ramps.kv (p.blendedKnots grid)
    conditions := planConditions s.tracks true true (some grid) (decide (sRaw < Config.unityScale))
      (decide (sMax < sRaw)) s.ramps.kb s.ramps.kv }

/-- The taking of an owed capture by a plan whose magnification is `m` (R67). -/
def State.takeCapture (s : State) (m : Nat) : State :=
  if s.planner.captureOwed then
    ((s.setSettings (s.settings.capture m)).setPlanner { s.planner with captureOwed := false }).setNotices
      { s.notices with framing := true }
  else s

/-- Steps 3 to 6 of a band plan (R58): the plan, and the state after a capture that it takes. -/
def State.makePlan (s : State) (d : PlanId) (sMax : Nat) : Plan × State :=
  match inUse s.slots with
  | some (slot, p) =>
    if usedAxesKnown p.used s.tracks then
      let t := s.takeCapture (p.magnification (gridPositions p (axisValues s.tracks)))
      (correctedPlan d t sMax slot p, t)
    else (neutralPlan d s (some slot) p.used, s)
  | none => (neutralPlan d s none ⟨false, false, false⟩, s)

/-! ### The queue, the latest plan and the frame report -/

/-- The lesser of a value and one that may be none. -/
def leastOf (x : Option Nat) (v : Nat) : Option Nat := some (match x with | some y => min y v | none => v)

/-- The greater of a value and one that may be none. -/
def greatestOf (x : Option Nat) (v : Nat) : Option Nat := some (match x with | some y => max y v | none => v)

/-- What a band plan adds to the frame report (R173). Conditions 4 to 6 of a neutral plan are passed over (R172). -/
def FrameReport.addPlan (r : FrameReport) (p : Plan) : FrameReport :=
  let corrected := p.breathing.isSome
  { r with
    bandsPlanned := r.bandsPlanned + 1
    slot := p.slot
    firstScale := if p.band = 0 then some p.sEff else r.firstScale
    leastScale := leastOf r.leastScale p.sEff
    greatestScale := greatestOf r.greatestScale p.sEff
    kb := some p.kb
    kv := some p.kv
    axisStates := p.axes.map fun a => some a.state
    clampedLow := r.clampedLow || p.conditions.scaleClampedLow
    clampedHigh := r.clampedHigh || p.conditions.scaleClampedHigh
    outOfRange :=
      ⟨r.outOfRange.focus || (corrected && !p.conditions.focusInRange),
       r.outOfRange.zoom || (corrected && !p.conditions.zoomInRange),
       r.outOfRange.iris || (corrected && !p.conditions.irisInRange)⟩
    focusFresh := (if p.band = 0 then true else r.focusFresh) && p.conditions.focusFresh }

/-- The report of the frame in progress changed. -/
def PixelPath.mapReport (x : PixelPath) (f : FrameReport → FrameReport) : PixelPath :=
  { x with frame := x.frame.map fun fr => { fr with report := f fr.report } }

/-- Step 7 of a band plan (R58): the plan enters the queue (R63), becomes the latest plan (R65) and adds to the frame
report (R173). -/
def State.enqueue (s : State) (p : Plan) : State :=
  (s.setPlanner { s.planner with queue := s.planner.queue ++ [p], latest := some p }).setPixel
    (s.pixel.mapReport (·.addPlan p))

/-- Step 1 of a band plan (R58): a pending BAND apply takes effect (R131). -/
def State.bandApply (s : State) : State := if s.settings.apply = .band then s.applyNow else s

/-- The planning of band `b` of the frame with header `h` (R58). -/
def State.planBand (s : State) (c : StreamConfig) (h : FrameHeader) (b : Nat) : State :=
  let d : PlanId := ⟨h.frameNumber.toNat, b, bandTime c h b⟩
  let made := (s.bandApply.evaluate d.time).makePlan d c.sMax
  (made.2.enqueue made.1).offerToWatches made.1

end Sys2Proof.Machine
end

