-- ==== Sys2Proof/Machine/Pixels.lean ====
section
/-! DEFINITION. The pixel path (chapter 7): the line store, the resampler and gain stage, the emission of rows, the
closing and aborting of a frame, and the treatment of headers, rows and ends in each stream state. -/

namespace Sys2Proof.Machine

/-! ### The line store (R111) -/

/-- A row enters the line store: it takes the place of the row whose index agrees with its own modulo L_req (R111). -/
def storeRow (depth : Nat) (store : List (Nat × Row)) (r : Nat) (row : Row) : List (Nat × Row) :=
  store.filter (fun e => e.1 % depth ≠ r % depth) ++ [(r, row)]

/-- Every held row whose index is below `bound` is released (R109, R111). -/
def releaseRows (bound : Nat) (store : List (Nat × Row)) : List (Nat × Row) := store.filter fun e => bound ≤ e.1

/-- The held row of an index. Every row that the resampler asks for is held (R111); where a state that no run reaches
holds none, the row is empty. -/
def heldRow (store : List (Nat × Row)) (r : Nat) : Row :=
  match store.find? fun e => e.1 == r with
  | some e => e.2
  | none => []

/-- The pixel of zeros in every colour (R109, R114). -/
def zeroPixel : Pixel := ⟨0, 0, 0⟩

/-- An arriving row made W pixels wide: a short row is completed by repeating its last pixel, or with zero pixels when it
has none, and pixels beyond the W-th are dropped (R109). -/
def fitRow (width : Nat) (row : Row) : Row :=
  row.take width ++ List.replicate (width - row.length) (row.getLastD zeroPixel)

/-! ### The resampler and the gain stage (R118 to R120) -/

/-- The source position, in 1/256 pixel, of output column or row `x` about a centre in half pixels (R118). -/
def sourcePosition (centre2 sEff x : Nat) : Int :=
  128 * (centre2 : Int) + roundDiv ((2 * (x : Int) - centre2) * 8388608) sEff

/-- The bilinear value of one colour (R119). -/
def bilinear (fx fy p00 p10 p01 p11 : Nat) : Nat :=
  (roundDiv (((256 - fx) * (256 - fy) * p00 + fx * (256 - fy) * p10 + (256 - fx) * fy * p01 + fx * fy * p11 : Nat) : Int)
    65536).toNat

/-- A sample of the output, and whether it saturated (R120). -/
structure Sampled where
  level     : Level
  saturated : Bool
  deriving DecidableEq, Repr

/-- The gain stage on one colour (R120). -/
def applyGain (p gain : Nat) : Sampled :=
  let v := (roundDiv ((p : Int) * gain) 4096).toNat
  if 65535 < v then ⟨65535, true⟩ else ⟨BitVec.ofNat 16 v, false⟩

/-- What one output pixel takes from its row: the four input rows' pixels and the fractions. -/
structure Taps where
  fx  : Nat
  fy  : Nat
  p00 : Pixel
  p10 : Pixel
  p01 : Pixel
  p11 : Pixel

/-- One colour of an output pixel (R119, R120). -/
def outputLevel (t : Taps) (colour : Pixel → Level) (gain : Nat) : Sampled :=
  applyGain
    (bilinear t.fx t.fy (colour t.p00).toNat (colour t.p10).toNat (colour t.p01).toNat (colour t.p11).toNat) gain

/-- The pixel of a row at a column, the column index clamped to the last (R119). -/
def pixelAt (row : Row) (width x : Nat) : Pixel := row.getD (min x (width - 1)) zeroPixel

/-- An output pixel with the number of its colours that saturated, from the rows `yi` and `yi + 1` and the vertical
position Y (R97, R98, R118 to R120). -/
def outputPixel (c : StreamConfig) (sEff : Nat) (knots : List Nat) (upper lower : Row) (yPos : Int) (x : Nat) :
    Pixel × Nat :=
  let xPos := sourcePosition c.cx2 sEff x
  let xi := (xPos / 256).toNat
  let t : Taps :=
    { fx := (xPos % 256).toNat, fy := (yPos % 256).toNat
      p00 := pixelAt upper c.width xi, p10 := pixelAt upper c.width (xi + 1)
      p01 := pixelAt lower c.width xi, p11 := pixelAt lower c.width (xi + 1) }
  let rho := radiusCode c.ax c.ay (xPos - 128 * c.cx2) (yPos - 128 * c.cy2)
  let r := outputLevel t (·.r) (gainAt knots 0 rho)
  let g := outputLevel t (·.g) (gainAt knots 1 rho)
  let b := outputLevel t (·.b) (gainAt knots 2 rho)
  (⟨r.level, g.level, b.level⟩, r.saturated.toNat + g.saturated.toNat + b.saturated.toNat)

/-- An output row, each pixel with the number of its colours that saturated. -/
def outputPixels (c : StreamConfig) (sEff : Nat) (knots : List Nat) (store : List (Nat × Row)) (y : Nat) :
    List (Pixel × Nat) :=
  let yPos := sourcePosition c.cy2 sEff y
  let yi := (yPos / 256).toNat
  let upper := heldRow store yi
  let lower := heldRow store (min (yi + 1) (c.height - 1))
  (List.range c.width).map (outputPixel c sEff knots upper lower yPos)

/-! ### Output packets (R121) -/

/-- A packet leaves at the pixel output port. -/
def State.emit (s : State) (p : VideoPacket) : State :=
  s.setOutputs { s.outputs with video := s.outputs.video ++ [p] }

/-- The output header leaves if it has not (R121). -/
def State.emitHeader (s : State) : State :=
  match s.pixel.frame with
  | some f =>
    if f.headerSent then s
    else (s.setPixel { s.pixel with frame := some { f with headerSent := true } }).emit (.header f.header)
  | none => s

/-- The scale and the knots of the plan of the band that contains output row `y` (R63). A state that no run reaches may
hold none; the neutral scale and knots then stand in. -/
def rowPlan (c : StreamConfig) (queue : List Plan) (y : Nat) : Nat × List Nat :=
  match queue.find? fun p => p.band == y / c.hb with
  | some p => (p.sEff, p.knots)
  | none => (Config.unityScale, neutralKnots)

/-- The plans that stay in the queue once output row `y` has been emitted (R64). -/
def queueAfterRow (c : StreamConfig) (queue : List Plan) (y : Nat) : List Plan :=
  queue.filter fun p => c.lastRow p.band != y

/-- An emitted row counted in the frame report, with its saturated samples (R173). -/
def FrameReport.addRow (r : FrameReport) (saturated : Nat) : FrameReport :=
  { r with
    rowsEmitted := r.rowsEmitted + 1
    saturation := saturatingAdd Config.countMax r.saturation saturated }

/-- Output row `y` is computed and emitted, preceded by the output header if that has not left (R109 step 3, R118 to
R121). -/
def State.emitRow (s : State) (c : StreamConfig) (y : Nat) : State :=
  let plan := rowPlan c s.planner.queue y
  let pixels := outputPixels c plan.1 plan.2 s.pixel.lineStore y
  let t := s.emitHeader.emit (.row (pixels.map Prod.fst))
  (t.setPixel (t.pixel.mapReport (·.addRow (pixels.map Prod.snd).sum))).setPlanner
    { t.planner with queue := queueAfterRow c t.planner.queue y }

/-! ### The arrival of a row (R109) -/

/-- Steps 1 of R109: row `r` enters the line store. -/
def State.storeRow (s : State) (c : StreamConfig) (r : Nat) (row : Row) : State :=
  s.setPixel { s.pixel with lineStore := Machine.storeRow c.depth s.pixel.lineStore r row }

/-- Rows below `bound` leave the line store (R111). -/
def State.releaseBelow (s : State) (bound : Nat) : State :=
  s.setPixel { s.pixel with lineStore := releaseRows bound s.pixel.lineStore }

/-- Steps 3 and 4 of R109 for row `r`. -/
def State.afterStore (s : State) (c : StreamConfig) (r : Nat) : State :=
  let t := if c.lag ≤ r then s.emitRow c (r - c.lag) else s
  t.releaseBelow (r - c.lag - c.lead - 1)

/-- An accepted row of the frame in progress (R109). -/
def State.acceptRow (s : State) (c : StreamConfig) (f : Frame) (row : Row) : State :=
  let r := f.report.rowsReceived
  let s1 := s.setPixel (s.pixel.mapReport fun x => { x with rowsReceived := r + 1 })
  let s2 := s1.storeRow c r (fitRow c.width row)
  let s3 := if r % c.hb = 0 then s2.planBand c f.header (r / c.hb) else s2
  s3.afterStore c r

/-- A row after the H-th (R115, R168). -/
def State.extraRow (s : State) (c : StreamConfig) (f : Frame) : State :=
  if f.report.long then s
  else
    (s.setPixel (s.pixel.mapReport fun x => { x with long := true })).reportFault .inputLong
      (some f.report.frameNumber) (some c.height)

/-- A row with no frame in progress (R117, R166). -/
def State.strayRow (s : State) : State :=
  if s.pixel.skip || s.pixel.orphan then s
  else (s.setPixel { s.pixel with orphan := true }).reportFault .headerMissing s.pixel.lastFrame none

/-- A row arrives at the pixel input port (R109, R115 to R117). -/
def State.rowArrives (s : State) (row : Row) : State :=
  match s.pixel.stream with
  | .stopped => s
  | .waiting => s.strayRow
  | _ =>
    match s.pixel.config, s.pixel.frame with
    | some c, some f =>
      if f.report.rowsReceived < c.height then s.acceptRow c f row else s.extraRow c f
    | _, _ => s

/-! ### Closing a frame (R113, R114) -/

/-- The bands of the frame not yet planned when `received` rows have arrived, in band order (R57). -/
def StreamConfig.unplannedBands (c : StreamConfig) (received : Nat) : List Nat :=
  (List.range c.bandCount).filter fun b => received ≤ b * c.hb

/-- A completion row, steps 1, 3 and 4 of R109 (R114). -/
def State.completionRow (c : StreamConfig) (row : Row) (s : State) (r : Nat) : State :=
  (s.storeRow c r row).afterStore c r

/-- What a short close does before the frame closes (R114, R167): INPUT_SHORT and TRUNCATED, the bands not yet planned,
and the completion rows. -/
def State.shortClose (s : State) (c : StreamConfig) (f : Frame) : State :=
  let received := f.report.rowsReceived
  let s1 := s.reportFault .inputShort (some f.report.frameNumber) (some received)
  let s2 := s1.setPixel (s1.pixel.mapReport fun x => { x with truncated := true })
  let s3 := (c.unplannedBands received).foldl (fun t b => t.planBand c f.header b) s2
  let row := if received = 0 then List.replicate c.width zeroPixel else heldRow s.pixel.lineStore (received - 1)
  (List.range' received (c.height - received)).foldl (State.completionRow c row) s3

/-- An output row emitted at a close, with the release that follows it (R111, R113). -/
def State.closingRow (c : StreamConfig) (s : State) (y : Nat) : State :=
  (s.emitRow c y).releaseBelow (y - c.lead - 1)

/-- The rows of the frame in progress emitted so far. -/
def PixelPath.rowsEmitted (x : PixelPath) : Nat := (x.frame.map (·.report.rowsEmitted)).getD 0

/-- The output rows not yet emitted (R113). -/
def State.emitRemaining (s : State) (c : StreamConfig) : State :=
  (List.range' s.pixel.rowsEmitted (c.height - s.pixel.rowsEmitted)).foldl (State.closingRow c) s

/-- The trailer leaves with the frame report as it stands (R174). -/
def State.emitTrailer (s : State) : State :=
  match s.pixel.frame with
  | some f => s.emit (.trailer f.report)
  | none => s

/-- The report of the frame in progress handed to the notice state (R158, R174). -/
def State.handOverReport (s : State) : State :=
  match s.pixel.frame with
  | some f => s.handOver f.report
  | none => s

/-- The line store is emptied, the frame in progress ends, and the stream becomes WAITING, or STOPPED with the STREAM
pending flag set and the skip and orphan flags clear when it was STOPPING (R106, R113). -/
def State.endFrame (s : State) : State :=
  let ended := { s.pixel with lineStore := [], frame := none }
  if s.pixel.stream = .stopping then
    (s.setPixel { ended with stream := .stopped, skip := false, orphan := false }).setNotices
      { s.notices with stream := true }
  else s.setPixel { ended with stream := .waiting }

/-- The frame in progress closes, short when fewer than H rows have arrived (R113, R114). -/
def State.closeFrame (s : State) : State :=
  match s.pixel.config, s.pixel.frame with
  | some c, some f =>
    let s1 := if f.report.rowsReceived < c.height then s.shortClose c f else s
    (s1.emitRemaining c).emitTrailer.handOverReport.endFrame
  | _, _ => s

/-- The frame in progress, if any, closes. -/
def State.closeIfOpen (s : State) : State :=
  match s.pixel.stream with
  | .inFrame => s.closeFrame
  | .stopping => s.closeFrame
  | _ => s

/-! ### Headers and ends -/

/-- The header's width and height equal the configured ones (R108). -/
def headerMatches (c : Option StreamConfig) (h : FrameHeader) : Bool :=
  match c with
  | some c => h.width == c.width && h.height == c.height
  | none => false

/-- The announcement of a frame header (R108): a pending FRAME apply takes effect (R131), then the ramp unit steps
(R132). -/
def State.announce (s : State) : State :=
  (if s.settings.apply = .frame then s.applyNow else s).announceToRamps

/-- A matching header starts a frame (R108). -/
def State.startFrame (s : State) (h : FrameHeader) : State :=
  (s.setPixel
    { s.pixel with
      stream := .inFrame
      frame := some ⟨h, false, FrameReport.initial h.frameNumber.toNat⟩
      lastFrame := some h.frameNumber.toNat }).announce

/-- A header that arrives in WAITING (R108, R116, R165). -/
def State.judgeHeader (s : State) (h : FrameHeader) : State :=
  let t := s.setPixel { s.pixel with skip := false, orphan := false }
  if headerMatches s.pixel.config h then t.startFrame h
  else
    (t.setPixel { t.pixel with skip := true }).reportFault .format (some h.frameNumber.toNat) none

/-- A header arrives at the pixel input port: it closes the frame in progress, and is then treated in the resulting
state (R108, R113, R116). -/
def State.headerArrives (s : State) (h : FrameHeader) : State :=
  let t := s.closeIfOpen
  if t.pixel.stream = .waiting then t.judgeHeader h else t

/-- The header, arriving now, is announced: after any close the stream is WAITING and the header matches (R108). -/
def State.announces (s : State) (h : FrameHeader) : Bool :=
  s.closeIfOpen.pixel.stream == .waiting && headerMatches s.closeIfOpen.pixel.config h

/-- An end arrives at the pixel input port (R113, R114, R116, R117). -/
def State.endArrives (s : State) : State :=
  match s.pixel.stream with
  | .stopped => s
  | .waiting => s.setPixel { s.pixel with skip := false, orphan := false }
  | _ => s.closeFrame

/-! ### Aborts (R124) -/

/-- The frame in progress is aborted at the pixel path: the output header if it has not left, then the trailer marked
ABORTED (R124). -/
def State.abortOutput (s : State) : State :=
  let t := s.emitHeader
  (t.setPixel (t.pixel.mapReport fun x => { x with aborted := true })).emitTrailer

/-- The stream is stopped with the line store and the plan queue empty, no frame in progress and the skip and orphan
flags clear (R69, R124, R175). -/
def State.stopStream (s : State) : State :=
  (s.setPixel { s.pixel with stream := .stopped, lineStore := [], frame := none, skip := false, orphan := false }).setPlanner
    { s.planner with queue := [] }

end Sys2Proof.Machine
end

