-- ==== Sys2Proof/Machine/Encode.lean ====
section
/-! DEFINITION. The encoding of the fields of replies and notices (R183, R184), and the bodies they make. -/

namespace Sys2Proof.Machine

/-! ### Field types (R184) -/

/-- A flag or an indication: one byte. -/
def encodeFlag (b : Bool) : List Byte := [if b then 1 else 0]

/-- A number that may be none or absent: a presence byte, then its bytes, 0 when it is none. -/
def encodeOptional (k : Nat) (x : Option Nat) : List Byte :=
  match x with
  | some n => 1 :: leBytes k n
  | none => 0 :: leBytes k 0

/-- An enumeration that may be none: 0xFF for none. -/
def encodeEnum? {α : Type} (code : α → Byte) (x : Option α) : List Byte :=
  match x with
  | some a => [code a]
  | none => [0xFF]

/-- Sources (R183). -/
def Source.code : Source → Byte
  | .mount => 0
  | .motor => 1
  | .panel => 2

/-- Axes (R184). -/
def Axis.code : Axis → Byte
  | .focus => 0
  | .zoom => 1
  | .iris => 2

/-- Axis states, in the order of R38. -/
def AxisState.code : AxisState → Byte
  | .fresh => 0
  | .coasting => 1
  | .holding => 2
  | .lost => 3
  | .none => 4

/-- The infinity end (R183). -/
def InfinityEnd.code : InfinityEnd → Byte
  | .low => 0
  | .high => 1

/-- Sections (R9). -/
def Section5.code : Section5 → Byte
  | .focusNodes => 0
  | .zoomNodes => 1
  | .irisNodes => 2
  | .magnification => 3
  | .shading => 4

/-- Slot states, in the order of R3. -/
def Slot.code : Slot → Byte
  | .empty => 0
  | .live .opened _ => 1
  | .live .ready _ => 2
  | .live .inUse _ => 3
  | .partner _ => 4

/-- REF_MODE (R183). -/
def RefMode.code : RefMode → Byte
  | .tightest => 0
  | .infinity => 1
  | .captured => 2

/-- LOSS_ACTION (R183). -/
def LossAction.code : LossAction → Byte
  | .hold => 0
  | .fade => 1

/-- Apply-pending states, in the order of R126. -/
def ApplyPending.code : ApplyPending → Byte
  | .none => 0
  | .frame => 1
  | .band => 2

/-- Stream states, in the order of R102. -/
def Stream.code : Stream → Byte
  | .stopped => 0
  | .waiting => 1
  | .inFrame => 2
  | .stopping => 3

/-- The forms of a buffered command (R183). -/
def BufferedForm.code : BufferedForm → Byte
  | .continue => 0
  | .restart => 1

/-- Baselines, in the order of R150. -/
def Baseline.code : Baseline → Byte
  | .unknown => 0
  | .conform => 1
  | .nonconform => 2

/-- Fault kinds, in the order of R169. -/
def FaultKind.code : FaultKind → Byte
  | .format => 0
  | .headerMissing => 1
  | .inputShort => 2
  | .inputLong => 3

/-- Reset causes, in the order of R178. -/
def ResetCause.code : ResetCause → Byte
  | .powerOn => 0
  | .resetLine => 1
  | .coldRequest => 2
  | .warmRequest => 3

/-- A slot number. -/
def slotByte (i : Fin 8) : Byte := BitVec.ofNat 8 i.val

/-- A set of conditions or of notice kinds: a bitmask of two bytes. -/
def encodeSet {w : Nat} (x : BitVec w) : List Byte := leBytes 2 x.toNat

/-- A source order: the number of entries, then three entries, 0xFF beyond that number. -/
def encodeOrder (order : List Source) : List Byte :=
  BitVec.ofNat 8 order.length :: ((order.map Source.code) ++ [0xFF, 0xFF, 0xFF]).take 3

/-- A label: its length, then its characters. -/
def encodeLabel (label : List Byte) : List Byte := BitVec.ofNat 8 label.length :: label

/-- The value of a setting. -/
def encodeSetting : Setting → List Byte
  | .profile x => encodeEnum? slotByte x
  | .refMode x => [x.code]
  | .refMag n => leBytes 2 n
  | .focusOrder x => encodeOrder x
  | .zoomOrder x => encodeOrder x
  | .irisOrder x => encodeOrder x
  | .coastLimit n => leBytes 4 n
  | .lostLimit n => leBytes 4 n
  | .lossAction x => [x.code]
  | .fadeFrames n => leBytes 1 n

/-! ### Groups of fields -/

/-- An axis track with all five fields of R38. -/
def encodeTrack (x : Track) : List Byte :=
  encodeEnum? Source.code x.source ++ [x.state.code] ++ encodeOptional 2 x.held
    ++ encodeEnum? Source.code x.prevSource ++ [x.prevState.code]

/-- The three axis tracks. -/
def encodeTracks (x : PerAxis Track) : List Byte := x.toList.flatMap encodeTrack

/-- A buffered command: its form, or 0xFF for none, and the target and frames total that a command has. -/
def encodeBuffered : Option Buffered → List Byte
  | some b => b.form.code :: leBytes 2 b.target ++ leBytes 2 b.total
  | none => [0xFF]

/-- A ramp with every field of R137. -/
def encodeRamp (r : Ramp) : List Byte :=
  leBytes 2 r.value ++ leBytes 2 r.target ++ leBytes 2 r.start ++ leBytes 2 r.total ++ leBytes 2 r.done
    ++ encodeFlag r.running ++ encodeBuffered r.buffered

/-- The definition of a watch (R150). -/
def encodeDefinition (w : Watch) : List Byte :=
  encodeSet w.selection ++ encodeSet w.expected ++ leBytes 2 w.lo ++ leBytes 2 w.hi ++ leBytes 1 w.level

/-- A watch with its definition, baseline and both flags (R151, R155). -/
def encodeWatch (w : Watch) : List Byte :=
  encodeDefinition w ++ [w.baseline.code] ++ encodeFlag w.tripped ++ encodeFlag w.owed

/-- The fault record (R161, R169, R171). -/
def encodeFaults : Option FaultEntry → List Byte
  | some e =>
    encodeFlag true ++ [e.kind.code] ++ encodeOptional 4 e.frame ++ encodeOptional 2 e.row ++ leBytes 1 e.following
  | none => encodeFlag false ++ [0xFF] ++ encodeOptional 4 none ++ encodeOptional 2 none ++ leBytes 1 0

/-- The frame report (R172). -/
def encodeReport (r : FrameReport) : List Byte :=
  leBytes 4 r.frameNumber ++ leBytes 2 r.rowsReceived ++ leBytes 2 r.rowsEmitted ++ leBytes 2 r.bandsPlanned
    ++ encodeOptional 1 (r.slot.map Fin.val) ++ encodeOptional 4 r.firstScale ++ encodeOptional 4 r.leastScale
    ++ encodeOptional 4 r.greatestScale ++ encodeOptional 2 r.kb ++ encodeOptional 2 r.kv
    ++ r.axisStates.toList.flatMap (encodeEnum? AxisState.code)
    ++ encodeFlag r.clampedLow ++ encodeFlag r.clampedHigh ++ r.outOfRange.toList.flatMap encodeFlag
    ++ encodeFlag r.focusFresh ++ leBytes 2 r.saturation
    ++ encodeFlag r.truncated ++ encodeFlag r.long ++ encodeFlag r.aborted

/-- The stream configuration with its derived figures (R107). -/
def encodeConfig (c : StreamConfig) : List Byte :=
  leBytes 2 c.width ++ leBytes 2 c.height ++ leBytes 2 c.bands ++ leBytes 4 c.sMax ++ leBytes 2 c.cx2
    ++ leBytes 2 c.cy2 ++ leBytes 2 c.ax ++ leBytes 2 c.ay ++ leBytes 2 c.hb ++ leBytes 2 c.bandCount
    ++ leBytes 2 c.lag ++ leBytes 2 c.lead ++ leBytes 2 c.depth ++ leBytes 2 c.capacity

/-! ### The replies that report -/

/-- The fields of an IDENTIFY reply (R191). -/
def identityFields (s : State) : List Byte :=
  Config.partName ++ leBytes 1 Config.familyNumber ++ leBytes 2 Config.partNumber ++ leBytes 1 Config.deviceRevision
    ++ leBytes 1 Config.protocolVersion ++ leBytes 1 8 ++ leBytes 4 Config.slotBytes ++ leBytes 1 Config.historyDepth
    ++ leBytes 1 8 ++ leBytes 1 Config.inboundCapacity ++ leBytes 1 Config.replyCapacity
    ++ leBytes 4 Config.lineStorePixels ++ leBytes 2 Config.lineStoreRows ++ [s.resetCause.code]

/-- The fields of a STATUS reply (R192). -/
def statusFields (s : State) : List Byte :=
  [s.pixel.stream.code] ++ encodeFlag s.pixel.config.isSome ++ encodeOptional 4 s.pixel.lastFrame
    ++ encodeTracks s.tracks
    ++ encodeRamp s.ramps.breathing ++ encodeRamp s.ramps.shading ++ leBytes 2 s.ramps.fade
    ++ encodeEnum? slotByte s.settings.active.profile ++ [s.settings.apply.code] ++ encodeFlag s.planner.captureOwed
    ++ [trippedSet s.watches] ++ encodeFlag s.faults.isSome
    ++ leBytes 2 s.control.crcFailures ++ leBytes 2 s.control.notReady ++ leBytes 2 s.lens.errors
    ++ s.intake.outOfOrder.toList.flatMap (leBytes 2)
    ++ [s.resetCause.code]

/-- The marks set in a section and its lowest clear element (R20). -/
def encodeSection (b : Body) (k : Section5) : List Byte :=
  leBytes 2 (b.marksSet k) ++ encodeOptional 2 (b.lowestClear k)

/-- The fields of a PROFILE_QUERY reply for slot `i` (R20). -/
def queryFields (s : State) (i : Fin 8) : List Byte :=
  let slot := s.slots.get i
  slot.code ::
    match slot with
    | .empty => []
    | .partner lower => [slotByte lower]
    | .live stage p =>
      encodeFlag p.pair ++ leBytes 1 p.geometry.nf ++ leBytes 1 p.geometry.nz ++ leBytes 1 p.geometry.ni
        ++ [p.infinity.code] ++ encodeLabel p.label ++ leBytes 4 p.size
        ++ sections.flatMap (encodeSection p.body)
        ++ (if stage = .opened then [] else encodeFlag (s.settings.holds i))

/-- The fields of a STREAM_READ reply (R107). -/
def streamFields (x : PixelPath) : List Byte :=
  [x.stream.code] ++ encodeFlag x.config.isSome
    ++ (match x.config with
        | some c => encodeConfig c
        | none => [])
    ++ (match x.frame with
        | some f =>
          leBytes 4 f.header.frameNumber.toNat ++ leBytes 6 f.header.t0.toNat ++ leBytes 2 f.header.rowPeriod.toNat
            ++ leBytes 2 f.report.rowsReceived ++ leBytes 2 f.report.rowsEmitted
            ++ encodeFlag f.report.truncated ++ encodeFlag f.report.long
        | none => [])
    ++ encodeOptional 4 x.lastFrame ++ leBytes 2 x.lineStore.length

/-- The fields of a STAGE_READ reply: for each parameter its active value, staged value and changed flag, then the
apply-pending state (R134). -/
def stageFields (x : Settings) : List Byte :=
  (List.zipWith (fun a b => encodeSetting a.1 ++ encodeSetting a.2 ++ encodeFlag b)
      (List.zip x.active.toList x.staged.toList) x.changed.toList).flatten
    ++ [x.apply.code]

/-! ### Notices (R161) -/

/-- The frame number and band index of the latest band plan. A WATCH or FRAMING notice is owed only when there is one. -/
def latestPlanFields (latest : Option Plan) : List Byte :=
  leBytes 4 ((latest.map (·.frameNumber)).getD 0) ++ leBytes 2 ((latest.map (·.band)).getD 0)

/-- The fields of a WATCH notice for watch `i` (R161). -/
def watchNoticeFields (s : State) (i : Fin 8) : List Byte :=
  let w := s.watches.get i
  [slotByte i] ++ encodeDefinition w ++ [w.baseline.code] ++ encodeFlag w.tripped ++ leBytes 1 w.level
    ++ latestPlanFields s.planner.latest
    ++ encodeSet ((s.planner.latest.map w.differing).getD 0)

/-- The fields of a FRAMING notice (R161). -/
def framingNoticeFields (s : State) : List Byte :=
  [s.settings.active.refMode.code] ++ leBytes 2 s.settings.active.refMag ++ leBytes 2 s.settings.staged.refMag
    ++ encodeFlag s.settings.changed.refMag ++ encodeFlag s.planner.captureOwed ++ latestPlanFields s.planner.latest

/-- The fields of a RAMP notice (R161). -/
def rampNoticeFields (u : RampUnit) : List Byte :=
  encodeRamp u.breathing ++ encodeRamp u.shading ++ leBytes 2 u.fade

/-- The fields of a STREAM notice (R161). -/
def streamNoticeFields (x : PixelPath) : List Byte :=
  [x.stream.code] ++ encodeFlag x.config.isSome ++ encodeOptional 4 x.lastFrame

/-- The fields of a FRAME_SUMMARY notice (R161). A report is retained whenever the notice is eligible. -/
def summaryNoticeFields (n : Notices) : List Byte :=
  encodeReport (n.retained.getD (FrameReport.initial 0)) ++ leBytes 2 n.framesCount

/-- The fields of a RESTARTED notice (R161). -/
def restartedNoticeFields (s : State) : List Byte := [s.resetCause.code] ++ encodeSet s.control.subscriptions

end Sys2Proof.Machine
end

