-- ==== Sys2Proof/Machine/Notices.lean ====
section
/-! DEFINITION. The choice, composition and sending of notices (R159 to R161) and the device-level resets (R176 to R179,
with the reset table of each chapter). -/

namespace Sys2Proof.Machine

/-! ### Choosing a notice (R159) -/

/-- A notice that could be offered: a kind, or the WATCH notice of one watch. -/
inductive Offer where
  | restarted | fault
  | watch (i : Fin 8)
  | source | framing | ramp | stream | summary
  deriving DecidableEq, Repr

/-- The kind of an offer. -/
def Offer.kind : Offer → NoticeKind
  | .restarted => .restarted
  | .fault => .fault
  | .watch _ => .watch
  | .source => .source
  | .framing => .framing
  | .ramp => .ramp
  | .stream => .stream
  | .summary => .summary

/-- The offers in the kind order of 10.4, the watches in the order of their index. -/
def offers : List Offer :=
  [.restarted, .fault] ++ indices8.map .watch ++ [.source, .framing, .ramp, .stream, .summary]

/-- The pending flag, or the watch's notice-owed flag, of an offer is set. -/
def State.owes (s : State) : Offer → Bool
  | .restarted => s.notices.restarted
  | .fault => s.notices.fault
  | .watch i => (s.watches.get i).owed
  | .source => s.notices.source
  | .framing => s.notices.framing
  | .ramp => s.notices.ramp
  | .stream => s.notices.stream
  | .summary => s.notices.summary

/-- The offer is eligible: it is owed and its kind is subscribed, or it is RESTARTED (R159). -/
def State.eligible (s : State) (o : Offer) : Bool :=
  s.owes o && (o == .restarted || subscribed s.control.subscriptions o.kind)

/-- The priority of an offer (R159). -/
def State.priority (s : State) : Offer → Nat
  | .restarted => 4
  | .fault => 3
  | .watch i => (s.watches.get i).level
  | .source => 2
  | .framing => 2
  | .ramp => 1
  | .stream => 1
  | .summary => 0

/-- The first of the highest priority in a list of offers. -/
def State.firstHighest (s : State) : List Offer → Option Offer
  | [] => none
  | o :: rest =>
    match s.firstHighest rest with
    | some best => if s.priority o < s.priority best then some best else some o
    | none => some o

/-- The notice that the notice state offers: the eligible one of highest priority, the earlier in kind order among
equals (R159). -/
def State.offered (s : State) : Option Offer := s.firstHighest (offers.filter s.eligible)

/-! ### Composing a notice (R160, R161) -/

/-- The fields of a notice, composed from the state as it stands. -/
def State.noticeFields (s : State) : Offer → List Byte
  | .restarted => restartedNoticeFields s
  | .fault => encodeFaults s.faults
  | .watch i => watchNoticeFields s i
  | .source => encodeTracks s.tracks
  | .framing => framingNoticeFields s
  | .ramp => rampNoticeFields s.ramps
  | .stream => streamNoticeFields s.pixel
  | .summary => summaryNoticeFields s.notices

/-- The record of a notice: kind 0x40 + n, tag 0 but for RESTARTED, which carries the restart tag (R181, R183). -/
def State.notice (s : State) (o : Offer) : Record :=
  ⟨0x40 + BitVec.ofNat 8 o.kind.bit, if o = .restarted then s.notices.restartTag else 0, s.noticeFields o⟩

/-- The flag of a notice cleared as its sending begins, and for FRAME_SUMMARY the frames count set to 0 (R158, R160). -/
def State.clearOffer (s : State) : Offer → State
  | .restarted => s.setNotices { s.notices with restarted := false }
  | .fault => s.setNotices { s.notices with fault := false }
  | .watch i => s.setWatches (s.watches.set i { s.watches.get i with owed := false })
  | .source => s.setNotices { s.notices with source := false }
  | .framing => s.setNotices { s.notices with framing := false }
  | .ramp => s.setNotices { s.notices with ramp := false }
  | .stream => s.setNotices { s.notices with stream := false }
  | .summary => s.setNotices { s.notices with summary := false, framesCount := 0 }

/-! ### The outbound arbiter (R189) -/

/-- The outbound line is free: no record is being sent and no device-level reset is under way (R189). -/
def State.lineFree (s : State) : Bool := s.running && s.control.sending.isNone

/-- The sending of a record starts. -/
def State.startSending (s : State) (x : Sending) : State := s.setControl { s.control with sending := some x }

/-- The oldest reply starts to be sent (R189). -/
def State.sendReply (s : State) : State :=
  match s.lineFree, s.control.replies with
  | true, r :: _ => s.startSending (.reply r)
  | _, _ => s

/-- The offered notice is composed, its flag is cleared and its sending starts (R160, R189). -/
def State.sendNotice (s : State) : State :=
  match s.lineFree && s.control.replies.isEmpty, s.offered with
  | true, some o => (s.clearOffer o).startSending (.notice (s.notice o))
  | _, _ => s

/-- A record goes out whole, or cut short, on the transmit line. -/
def State.transmit (s : State) (x : LinkOutput) : State :=
  s.setOutputs { s.outputs with link := s.outputs.link ++ [x] }

/-- The sending of a record ends: a reply's entry is freed (R189), and the end of RESTARTED asserts ready (R179,
R186). -/
def State.sendEnd (s : State) : State :=
  match s.running, s.control.sending with
  | true, some (.reply r) =>
    (s.setControl { s.control with sending := none, replies := s.control.replies.tail }).transmit
      (.whole (recordBytes r))
  | true, some (.notice r) =>
    (s.setControl
      { s.control with
        sending := none
        ready :=
          if r.kind = 0x40 then decide (s.control.inbound.length < Config.inboundCapacity)
          else s.control.ready }).transmit (.whole (recordBytes r))
  | _, _ => s

/-! ### Device-level resets -/

/-- A record being sent is ended part way (R189, R194). -/
def State.cutSending (s : State) : State :=
  match s.control.sending with
  | some (.reply r) => s.transmit (.cutShort r)
  | some (.notice r) => s.transmit (.cutShort r)
  | none => s

/-- The control link as a device-level reset begins (R176, R186, R194). The subscription set is kept until the reset
ends. -/
def ControlLink.atResetStart (c : ControlLink) : ControlLink :=
  ⟨.hunting, [], false, [], none, 0, 0, c.subscriptions⟩

/-- A frame in progress is aborted with its trailer; the report is not handed over (R124, R174, R176). -/
def State.abortAtReset (s : State) : State := s.abortOutput.stopStream

/-- A device-level reset begins (R176, R177, R194): the frame in progress is aborted, the links are emptied and ready is
deasserted. -/
def State.beginReset (s : State) (run : ResetRun) : State :=
  let t := s.abortAtReset.cutSending
  ((t.setControl t.control.atResetStart).setLens LensLink.initial).setResetRun (some run)

/-- The blocks that WARM and COLD return to the same values (R35, R53, R69, R135, R149, R169). -/
def State.resetCommon (s : State) : State :=
  ((((((s.setIntake Intake.initial).setTracks ⟨Track.initial, Track.initial, Track.initial⟩).setSettings
    Settings.initial).setPlanner Planner.initial).setRamps RampUnit.initial).setFaults none)

/-- A watch after a WARM restart (R163). -/
def Watch.warm (w : Watch) : Watch := { w with baseline := .unknown, tripped := false, owed := false }

/-- The blocks at their WARM values (R21, R124, R163). -/
def State.warmValues (s : State) : State :=
  ((s.resetCommon.setSlots (warmSlots s.slots)).setWatches (s.watches.map Watch.warm)).setPixel
    { PixelPath.initial with config := s.pixel.config, lastFrame := s.pixel.lastFrame }

/-- The blocks at their COLD values (R21, R124, R163, R194). -/
def State.coldValues (s : State) : State :=
  (((s.resetCommon.setSlots (Eight.all .empty)).setWatches (Eight.all Watch.initial)).setPixel
    PixelPath.initial).setControl { s.control with subscriptions := 0 }

/-- A device-level reset ends (R176 to R179): every block holds its values for the level, the reset cause is set, and
RESTARTED is the one notice pending, with its tag. -/
def State.finishReset (s : State) (run : ResetRun) : State :=
  let t := if run.cause = .warmRequest then s.warmValues else s.coldValues
  ((t.setNotices (Notices.afterReset run.tag)).setResetCause run.cause).setResetRun none

/-- The part without power (R177): the state it holds is the state that power-on gives, less the RESTARTED flag, which
the end of the power-on reset sets. Nothing is under way. What it has put out stands. -/
def State.blank (s : State) : State :=
  ((((s.coldValues.setControl ControlLink.initial).setLens LensLink.initial).setNotices
    { Notices.afterReset 0 with restarted := false }).setResetCause .powerOn).setResetRun none

end Sys2Proof.Machine
end

