-- ==== Sys2Proof/Machine/LinkCommands.lean ====
section
/-! DEFINITION. The meanings of the link commands: IDENTIFY, STATUS, SUBSCRIBE, UNKNOWN_KIND, the arrival of bytes on
the two links, and the start and end of a sending (chapter 12 and R162). -/

namespace Sys2Proof.Machine

/-- What a command answers. -/
abbrev Result := Host.Outcome State Fault Refusal

/-- IDENTIFY (R191). -/
def execIdentify (q : Request) (s : State) : Result :=
  .next (takeRequest 0x01 q (fun t => answer .ok (identityFields t) t) s)

/-- STATUS (R192). -/
def execStatus (q : Request) (s : State) : Result :=
  .next (takeRequest 0x02 q (fun t => answer .ok (statusFields t) t) s)

/-- The notice state when the subscription set changes (R158): the removal of FRAME_SUMMARY discards the retained report
and clears its pending flag. -/
def Notices.resubscribe (n : Notices) (old new : BitVec 8) : Notices :=
  if subscribed old .summary && !subscribed new .summary then { n with retained := none, summary := false } else n

/-- What the control link makes of SUBSCRIBE (R162). -/
def subscribeOwner (q : Request) (s : State) : Answer :=
  let wanted := fieldAt q.body 0 2
  if 256 ≤ wanted then refuse .badValue s
  else
    let new := BitVec.ofNat 8 wanted
    let t := (s.setNotices (s.notices.resubscribe s.control.subscriptions new)).setControl
      { s.control with subscriptions := new }
    answer .ok (encodeSet new ++ encodeSet (pendingKinds t.notices t.watches)) t

/-- SUBSCRIBE (R162). -/
def execSubscribe (q : Request) (s : State) : Result := .next (takeRequest 0x03 q (subscribeOwner q) s)

/-- UNKNOWN_KIND (R188). -/
def execUnknownKind (kind : Byte) (q : Request) (s : State) : Result := .next (takeUnknown kind q s)

/-- Bytes on the control link's receive line: the receiver treats each start byte by the ready line as it stands there
(R182, R185, R187). A part without power receives nothing. -/
def State.controlBytes (s : State) (bytes : List Byte) : State :=
  if s.powered then s.setControl (s.control.feed bytes) else s

/-- CONTROL_RECORD_ARRIVAL: a record that began while ready was asserted completes (R185, R182). -/
def execControlRecordArrival (bytes : List Byte) (s : State) : Result := .next (s.controlBytes bytes)

/-- NOT_READY_RECORD: a record whose start byte arrives while ready is deasserted is passed over and counted (R187). -/
def execNotReadyRecord (bytes : List Byte) (s : State) : Result := .next (s.controlBytes bytes)

/-- One error of the lens link (R193). -/
def LensLink.countError (l : LensLink) : LensLink := { l with errors := saturatingSucc Config.countMax l.errors }

/-- The source of a sample that the lens link may carry: MOUNT or MOTOR (R22, R24). -/
def lensSource (n : Nat) : Option Source :=
  match n with
  | 0 => some .mount
  | 1 => some .motor
  | _ => none

/-- The sample of a good lens-link record, with its source, if its body passes R24. -/
def lensSample (r : Record) : Option (Source × Sample) :=
  if r.kind = 0x20 ∧ 8 ≤ r.body.length then
    let f := sampleFields r.body
    if presenceGood f.presence && sampleLengthGood f then (lensSource f.source).map fun k => (k, sampleOf f) else none
  else none

/-- What the lens link does with one outcome of its receiver (R193): a good sample goes to the intake; any other record,
and a CRC failure, is counted. -/
def State.lensEvent (s : State) (e : Option Record) : State :=
  match e.bind lensSample with
  | some (k, x) => s.setIntake (s.intake.take k x)
  | none => s.setLens s.lens.countError

/-- Bytes on the lens link's receive line (R193). While a device-level reset is under way they are discarded (R36). -/
def State.lensBytes (s : State) (bytes : List Byte) : State :=
  if s.running then
    let scan := lensFeed s.lens.receiver bytes
    scan.events.foldl State.lensEvent (s.setLens { s.lens with receiver := scan.receiver })
  else s

/-- LENS_RECORD_ARRIVAL (R193). -/
def execLensRecordArrival (bytes : List Byte) (s : State) : Result := .next (s.lensBytes bytes)

/-- SEND_REPLY (R189). -/
def execSendReply (s : State) : Result := .next s.sendReply

/-- SEND_NOTICE (R160, R189). -/
def execSendNotice (s : State) : Result := .next s.sendNotice

/-- SEND_END (R189, R179). -/
def execSendEnd (s : State) : Result := .next s.sendEnd

end Sys2Proof.Machine
end

