-- ==== Sys2Proof/Machine/ProfileCommands.lean ====
section
/-! DEFINITION. The meanings of the profile commands (chapter 1). -/

namespace Sys2Proof.Machine

/-- A label is at most 16 characters of the printable range (R5). -/
def labelGood (label : List Byte) : Bool :=
  decide (label.length ≤ 16) && label.all fun b => decide (0x20 ≤ b.toNat ∧ b.toNat ≤ 0x7E)

/-- The profile that PROFILE_OPEN makes (R8). -/
def newProfile (g : Geometry) (infinity : InfinityEnd) (label : List Byte) : Profile :=
  ⟨g, infinity, label, g.size, g.isPair, Body.blank g⟩

/-- The opening of a slot by R8, with its reply. -/
def openAt (s : State) (i : Fin 8) (p : Profile) : Answer :=
  answer .ok ([slotByte i] ++ leBytes 4 p.size ++ encodeFlag p.pair) (s.setSlots (openSlot s.slots i p))

/-- The slot request of a PROFILE_OPEN whose other fields are good: ANY (0xFF) or a slot number (R6, R7). -/
def allocate (s : State) (request : Nat) (p : Profile) : Answer :=
  if request = 0xFF then
    match if p.pair then choosePair s.slots else chooseSingle s.slots with
    | some i => openAt s i p
    | none => refuse .noSlot s
  else
    match index8 request with
    | some i => if namedSlotFits s.slots p.pair i then openAt s i p else refuse .slotState s
    | none => refuse .badValue s

/-- What the profile store makes of PROFILE_OPEN (R5 to R8). -/
def profileOpenOwner (q : Request) (s : State) : Answer :=
  let g : Geometry := ⟨fieldAt q.body 0 1, fieldAt q.body 1 1, fieldAt q.body 2 1⟩
  let label := q.body.drop 5
  match decodeInfinity (fieldAt q.body 3 1) with
  | some infinity =>
    if g.admissible && labelGood label then allocate s (fieldAt q.body 4 1) (newProfile g infinity label)
    else refuse .badValue s
  | none => refuse .badValue s

/-- PROFILE_OPEN (R5). -/
def execProfileOpen (q : Request) (s : State) : Result := .next (takeRequest 0x05 q (profileOpenOwner q) s)

/-- A run of elements written into the OPEN slot `i` (R10, R11). -/
def writeRun (s : State) (i : Fin 8) (p : Profile) (k : Section5) (first : Nat) (run : List (List Nat)) : Answer :=
  if p.geometry.count k < first + run.length then refuse .badValue s
  else if run.all fun element => element.all (codeGood k) then
    let body := p.body.store k first run
    answer .ok ([k.code] ++ leBytes 2 (body.marksSet k) ++ leBytes 2 body.marksClear)
      (s.setSlots (s.slots.set i (.live .opened { p with body })))
  else refuse .badValue s

/-- What the profile store makes of PROFILE_WRITE (R9 to R11). -/
def profileWriteOwner (q : Request) (s : State) : Answer :=
  let elements := q.body.drop 4
  match decodeSection (fieldAt q.body 1 1) with
  | none => refuse .badValue s
  | some k =>
    if !runLengthGood k elements.length then refuseLength q s
    else
      match index8 (fieldAt q.body 0 1) with
      | none => refuse .badValue s
      | some i =>
        match s.slots.get i with
        | .live .opened p => writeRun s i p k (fieldAt q.body 2 2) (runElements k elements)
        | _ => refuse .slotState s

/-- PROFILE_WRITE (R9). -/
def execProfileWrite (q : Request) (s : State) : Result := .next (takeRequest 0x06 q (profileWriteOwner q) s)

/-- The closing of the OPEN slot `i` (R12 to R14). -/
def closeSlot (s : State) (i : Fin 8) (p : Profile) : Answer :=
  match p.body.firstMissing with
  | some (k, e) => answer .incomplete ([k.code] ++ leBytes 2 e) s
  | none =>
    match p.body.firstUnordered with
    | some (a, e) => answer .order ([a.code] ++ leBytes 1 e) s
    | none => answer .ok ([slotByte i] ++ leBytes 4 p.size) (s.setSlots (s.slots.set i (.live .ready p)))

/-- What the profile store makes of PROFILE_CLOSE (R12 to R14). -/
def profileCloseOwner (q : Request) (s : State) : Answer :=
  match index8 (fieldAt q.body 0 1) with
  | none => refuse .badValue s
  | some i =>
    match s.slots.get i with
    | .live .opened p => closeSlot s i p
    | _ => refuse .slotState s

/-- PROFILE_CLOSE (R12). -/
def execProfileClose (q : Request) (s : State) : Result := .next (takeRequest 0x07 q (profileCloseOwner q) s)

/-- The emptying of slot `i`, with its reply (R15). -/
def discardAt (s : State) (i : Fin 8) (p : Profile) : Answer :=
  answer .ok ([slotByte i] ++ encodeFlag p.pair) (s.setSlots (emptySlot s.slots i p.pair))

/-- What the profile store makes of PROFILE_DISCARD (R15, R16). -/
def profileDiscardOwner (q : Request) (s : State) : Answer :=
  match index8 (fieldAt q.body 0 1) with
  | none => refuse .badValue s
  | some i =>
    match s.slots.get i with
    | .live .opened p => discardAt s i p
    | .live .ready p => if s.settings.holds i then refuse .slotHeld s else discardAt s i p
    | _ => refuse .slotState s

/-- PROFILE_DISCARD (R15). -/
def execProfileDiscard (q : Request) (s : State) : Result := .next (takeRequest 0x08 q (profileDiscardOwner q) s)

/-- What the profile store makes of PROFILE_QUERY (R20). -/
def profileQueryOwner (q : Request) (s : State) : Answer :=
  match index8 (fieldAt q.body 0 1) with
  | none => refuse .badValue s
  | some i => answer .ok (queryFields s i) s

/-- PROFILE_QUERY (R20). -/
def execProfileQuery (q : Request) (s : State) : Result := .next (takeRequest 0x09 q (profileQueryOwner q) s)

end Sys2Proof.Machine
end

