-- ==== Sys2Proof/Machine/RampCommands.lean ====
section
/-! DEFINITION. The meanings of the four forms of RAMP and of RAMP_COMPLETE (chapter 9). -/

namespace Sys2Proof.Machine

/-- A ramp command (R138): its form, its target and its frames total. -/
inductive RampCommand where
  | buffer (form : BufferedForm) (target total : Nat)
  | now (target total : Nat)
  | halt
  deriving DecidableEq, Repr

/-- The ramp command that a form, a target and a frames total make, when they pass R138. HALT's target and frames total
are not checked. -/
def decodeRamp (form target total : Nat) : Option RampCommand :=
  let good := decide (target ≤ 256 ∧ total ≤ 4095)
  match form with
  | 0 => if good then some (.buffer .continue target total) else none
  | 1 => if good then some (.buffer .restart target total) else none
  | 2 => if good then some (.now target total) else none
  | 3 => some .halt
  | _ => none

/-- A ramp after a command (R139 to R141). -/
def Ramp.obey (r : Ramp) : RampCommand → Ramp
  | .buffer form target total => r.buffer form target total
  | .now target total => r.now target total
  | .halt => r.halt

/-- The command displaces a buffered command: the REPLACED indication (R138, R139). -/
def Ramp.replaces (r : Ramp) : RampCommand → Bool
  | .buffer _ _ _ => r.buffered.isSome
  | _ => false

/-- What a RAMP reply says of one ramp: REPLACED, then the ramp's fields after the request (R138). -/
def rampReply (before : Ramp) (command : RampCommand) : List Byte :=
  encodeFlag (before.replaces command) ++ encodeRamp (before.obey command)

/-- The fields of a RAMP reply (R138): each ramp reached, then the fade factor and the effective strengths. -/
def rampFields (before after : RampUnit) (k : RampSelector) (command : RampCommand) : List Byte :=
  (match k with
   | .breathing => rampReply before.breathing command
   | .shading => rampReply before.shading command
   | .both => rampReply before.breathing command ++ rampReply before.shading command)
    ++ leBytes 2 after.fade ++ leBytes 2 after.kb ++ leBytes 2 after.kv

/-- What the ramp unit makes of RAMP (R138). -/
def rampOwner (q : Request) (s : State) : Answer :=
  match decodeSelector (fieldAt q.body 0 1), decodeRamp (fieldAt q.body 1 1) (fieldAt q.body 2 2) (fieldAt q.body 4 2) with
  | some k, some command =>
    let after := s.ramps.select k (·.obey command)
    answer .ok (rampFields s.ramps after k command) (s.setRamps after)
  | _, _ => refuse .badValue s

/-- The control link takes a RAMP request of one form, or one whose form is not coded. -/
def takeRamp (form : Nat) (q : Request) (s : State) : State :=
  if rampFits form q then takeRequest 0x13 q (rampOwner q) s else s

/-- RAMP_CONTINUE (R139). -/
def execRampContinue (q : Request) (s : State) : Result := .next (takeRamp 0 q s)

/-- RAMP_RESTART (R139). -/
def execRampRestart (q : Request) (s : State) : Result := .next (takeRamp 1 q s)

/-- RAMP_NOW (R140). -/
def execRampNow (q : Request) (s : State) : Result := .next (takeRamp 2 q s)

/-- RAMP_HALT (R141). -/
def execRampHalt (q : Request) (s : State) : Result := .next (takeRamp 3 q s)

/-- RAMP_COMPLETE (R148): the arrival of a frame header at whose announcement a ramp completes a run, by its last step or
by the jump of a buffered command. A run completes at no other event (R144), so when the header would not be announced or
no run would complete at it, nothing happens. -/
def execRampComplete (h : FrameHeader) (s : State) : Result :=
  .next (if s.running && s.announces h && s.ramps.completes then s.headerArrives h else s)

end Sys2Proof.Machine
end

