-- ==== Sys2Proof/Machine/ResetCommands.lean ====
section
/-! DEFINITION. The meanings of the restart, power and reset-line commands (11.4). -/

namespace Sys2Proof.Machine

/-- The fields that a STREAM restart's reply carries: the stream state before the request, whether a frame was aborted, and
for an aborted frame its frame number and rows emitted (R175). -/
def streamRestartFields (x : PixelPath) : List Byte :=
  [x.stream.code] ++ encodeFlag x.frame.isSome
    ++ match x.frame with
       | some f => leBytes 4 f.report.frameNumber ++ leBytes 2 f.report.rowsEmitted
       | none => []

/-- A STREAM restart (R175): a frame in progress is aborted and its report handed over, the stream is stopped and every
watch baseline returns to UNKNOWN. -/
def State.streamRestart (s : State) : State :=
  let t := s.abortOutput.handOverReport.stopStream
  t.setWatches (resetBaselines t.watches)

/-- What a RESTART request that is not of level WARM or COLD comes to (R175): level STREAM restarts the stream, and any
value not coded is refused. -/
def restartOwner (q : Request) (s : State) : Answer :=
  if restartLevel q = some 0 then answer .ok (streamRestartFields s.pixel) s.streamRestart else refuse .badValue s

/-- The taking of a RESTART of a device level begins the reset, and no reply enters the queue (R176, R188). -/
def takeDeviceRestart (cause : ResetCause) (q : Request) (s : State) : State :=
  if s.takes ⟨0x04, q.tag, q.body⟩ then s.removeOldest.beginReset ⟨cause, q.tag⟩ else s

/-- The control link takes a RESTART of one level, or one whose level is not coded (R175, R176). -/
def takeRestart (level : Nat) (cause : ResetCause) (q : Request) (s : State) : State :=
  if !restartFits level q then s
  else if restartLevel q = some level then takeDeviceRestart cause q s
  else takeRequest 0x04 q (restartOwner q) s

/-- RESTART_STREAM (R175). -/
def execRestartStream (q : Request) (s : State) : Result :=
  .next (if restartFits 0 q then takeRequest 0x04 q (restartOwner q) s else s)

/-- RESTART_WARM (R176). -/
def execRestartWarm (q : Request) (s : State) : Result := .next (takeRestart 1 .warmRequest q s)

/-- RESTART_COLD (R176). -/
def execRestartCold (q : Request) (s : State) : Result := .next (takeRestart 2 .coldRequest q s)

/-- POWER_ON (R177): a part without power takes the COLD values and begins a reset with cause POWER_ON. If the reset line is
held, the reset under way is the reset line's. -/
def execPowerOn (s : State) : Result :=
  .next
    (if s.powered then s
     else
       (s.blank.setPowered true).setResetRun
         (some ⟨if s.resetLine then .resetLine else .powerOn, 0⟩))

/-- POWER_LOSS (R177): all activity ends, nothing is emitted or sent after it, and the part holds the state that power-on
gives. -/
def execPowerLoss (s : State) : Result :=
  .next (if s.powered then (s.cutSending.blank).setPowered false else s)

/-- RESET_LINE_ASSERT (R177): a reset begins, superseding any restart under way. -/
def execResetLineAssert (s : State) : Result :=
  .next
    (if s.resetLine then s
     else if s.powered then (s.beginReset ⟨.resetLine, 0⟩).setResetLine true
     else s.setResetLine true)

/-- RESET_LINE_RELEASE (R177): the reset ends, with the cause RESET_LINE. -/
def execResetLineRelease (s : State) : Result :=
  .next
    (if s.resetLine then
       let t := s.setResetLine false
       if s.powered && s.resetRun.isSome then t.finishReset ⟨.resetLine, 0⟩ else t
     else s)

/-- RESET_END (R176): a reset under way completes. The part stays in reset while the reset line is held (R177). -/
def execResetEnd (s : State) : Result :=
  .next
    (match s.powered && !s.resetLine, s.resetRun with
     | true, some run => s.finishReset run
     | _, _ => s)

end Sys2Proof.Machine
end

