-- ==== Sys2Proof/Machine/StageCommands.lean ====
section
/-! DEFINITION. The meanings of the settings commands and of FRAMING_CAPTURE (chapter 8, R66). -/

namespace Sys2Proof.Machine

/-- A setting in range, judged by the pairing check and the slot check and then staged (R127 to R129). -/
def stageSetting (s : State) (v : Setting) : Answer :=
  if !pairingGood s.settings.staged v then refuse .badValue s
  else if !slotGood s.slots v then refuse .slotState s
  else
    let x := s.settings.write v
    answer .ok
      (leBytes 1 v.number ++ encodeSetting v ++ encodeFlag (x.differs v) ++ [x.apply.code]) (s.setSettings x)

/-- What the settings stage makes of STAGE_WRITE (R127). -/
def stageWriteOwner (q : Request) (s : State) : Answer :=
  let number := fieldAt q.body 0 1
  let value := q.body.drop 1
  if 9 < number then refuse .badValue s
  else if (settingLength number).any (· != value.length) then refuseLength q s
  else
    match decodeSetting number value with
    | some v => stageSetting s v
    | none => refuse .badValue s

/-- STAGE_WRITE (R127). -/
def execStageWrite (q : Request) (s : State) : Result := .next (takeRequest 0x0E q (stageWriteOwner q) s)

/-- The alignment of a STAGE_APPLY: FRAME 0, BAND 1 (R130, R183). -/
def decodeAlignment (n : Nat) : Option ApplyPending :=
  match n with
  | 0 => some .frame
  | 1 => some .band
  | _ => none

/-- What the settings stage makes of STAGE_APPLY (R130). -/
def stageApplyOwner (q : Request) (s : State) : Answer :=
  match decodeAlignment (fieldAt q.body 0 1) with
  | none => refuse .badValue s
  | some alignment =>
    let t :=
      if s.pixel.stream = .stopped then s.applyNow
      else s.setSettings { s.settings with apply := s.settings.apply.raise alignment }
    answer .ok [t.settings.apply.code] t

/-- STAGE_APPLY (R130). -/
def execStageApply (q : Request) (s : State) : Result := .next (takeRequest 0x0F q (stageApplyOwner q) s)

/-- What the settings stage makes of STAGE_CANCEL (R133). -/
def stageCancelOwner (s : State) : Answer :=
  answer .ok
    (leBytes 1 ((s.settings.changed.toList.filter (· = true)).length) ++ [s.settings.apply.code])
    (s.setSettings s.settings.cancelled)

/-- STAGE_CANCEL (R133). -/
def execStageCancel (q : Request) (s : State) : Result := .next (takeRequest 0x10 q stageCancelOwner s)

/-- STAGE_READ (R134). -/
def execStageRead (q : Request) (s : State) : Result :=
  .next (takeRequest 0x11 q (fun t => answer .ok (stageFields t.settings) t) s)

/-- What the band planner makes of FRAMING_CAPTURE (R66): the reply says whether a capture was owed. -/
def framingCaptureOwner (s : State) : Answer :=
  answer .ok (encodeFlag s.planner.captureOwed) (s.setPlanner { s.planner with captureOwed := true })

/-- FRAMING_CAPTURE (R66). -/
def execFramingCapture (q : Request) (s : State) : Result := .next (takeRequest 0x12 q framingCaptureOwner s)

end Sys2Proof.Machine
end

