-- ==== Sys2Proof/Machine/StreamCommands.lean ====
section
/-! DEFINITION. The meanings of the stream commands: STREAM_CONFIGURE, STREAM_START, STREAM_STOP, STREAM_READ and the
packets of the pixel input port (chapter 7). -/

namespace Sys2Proof.Machine

/-- The fields of a STREAM_CONFIGURE request (R103, R183). -/
structure ConfigureFields where
  width  : Nat
  height : Nat
  bands  : Nat
  sMax   : Nat
  form   : Nat
  cx2    : Nat
  cy2    : Nat
  ax     : Nat
  ay     : Nat
  deriving DecidableEq, Repr

/-- The fields as they stand in the body. -/
def configureFields (body : List Byte) : ConfigureFields :=
  ⟨fieldAt body 0 2, fieldAt body 2 2, fieldAt body 4 2, fieldAt body 6 4, fieldAt body 10 1, fieldAt body 11 2,
   fieldAt body 13 2, fieldAt body 15 2, fieldAt body 17 2⟩

/-- The fields with a GEOMETRIC centre replaced by the pair it stands for (R103). -/
def ConfigureFields.centred (f : ConfigureFields) : ConfigureFields :=
  if f.form = 1 then { f with cx2 := f.width - 1, cy2 := f.height - 1 } else f

/-- The range checks of R103, on fields whose centre is a pair. -/
def ConfigureFields.good (f : ConfigureFields) : Bool :=
  decide (64 ≤ f.width ∧ f.width ≤ 4096 ∧ f.width % 2 = 0)
    && decide (64 ≤ f.height ∧ f.height ≤ 3072)
    && decide (4 ≤ f.bands ∧ f.bands ≤ f.height / 8)
    && decide (Config.unityScale ≤ f.sMax ∧ f.sMax ≤ Config.scaleLimit)
    && decide (f.form ≤ 1)
    && decide (f.cx2 ≤ 2 * (f.width - 1) ∧ f.cy2 ≤ 2 * (f.height - 1))
    && decide (1 ≤ f.ax ∧ f.ax ≤ 8192 ∧ 1 ≤ f.ay ∧ f.ay ≤ 8192)

/-- The output lag D (R104). -/
def outputLag (cy2 sMax : Nat) : Nat := cy2 * (sMax - 65536) / (2 * sMax) + 2

/-- The lower lead Lw (R104). -/
def lowerLead (height cy2 sMax : Nat) : Nat := (2 * (height - 1) - cy2) * (sMax - 65536) / (2 * sMax)

/-- The configuration with its derived figures (R54, R104). -/
def ConfigureFields.configuration (f : ConfigureFields) : StreamConfig :=
  let lag := outputLag f.cy2 f.sMax
  let lead := lowerLead f.height f.cy2 f.sMax
  let hb := ceilDiv f.height f.bands
  { width := f.width, height := f.height, bands := f.bands, sMax := f.sMax, cx2 := f.cx2, cy2 := f.cy2
    ax := f.ax, ay := f.ay, hb, bandCount := ceilDiv f.height hb, lag, lead, depth := lag + lead + 2
    capacity := min Config.lineStoreRows (Config.lineStorePixels / f.width) }

/-- What the pixel path makes of STREAM_CONFIGURE (R103, R104). -/
def streamConfigureOwner (q : Request) (s : State) : Answer :=
  if s.pixel.stream ≠ .stopped then refuse .badState s
  else
    let f := (configureFields q.body).centred
    if !f.good then refuse .badValue s
    else
      let c := f.configuration
      let figures := leBytes 2 c.lag ++ leBytes 2 c.lead ++ leBytes 2 c.depth ++ leBytes 2 c.capacity
      if c.capacity < c.depth then answer .capacity figures s
      else
        answer .ok (figures ++ leBytes 2 c.hb ++ leBytes 2 c.bandCount)
          (s.setPixel { s.pixel with config := some c, lineStore := [] })

/-- STREAM_CONFIGURE (R103). -/
def execStreamConfigure (q : Request) (s : State) : Result := .next (takeRequest 0x0A q (streamConfigureOwner q) s)

/-- What the pixel path makes of STREAM_START (R105). -/
def streamStartOwner (s : State) : Answer :=
  match s.pixel.stream with
  | .stopped =>
    if s.pixel.config.isSome then
      answer .ok [] (s.setPixel { s.pixel with stream := .waiting, skip := false, orphan := false })
    else refuse .badState s
  | _ => answer .ok [] s

/-- STREAM_START (R105). -/
def execStreamStart (q : Request) (s : State) : Result := .next (takeRequest 0x0B q streamStartOwner s)

/-- The pixel path after STREAM_STOP (R106): entry to STOPPED clears the skip and orphan flags and empties the line
store (R111). -/
def PixelPath.stop (x : PixelPath) : PixelPath :=
  match x.stream with
  | .waiting => { x with stream := .stopped, skip := false, orphan := false, lineStore := [] }
  | .inFrame => { x with stream := .stopping }
  | _ => x

/-- What the pixel path makes of STREAM_STOP (R106). -/
def streamStopOwner (s : State) : Answer := answer .ok [s.pixel.stop.stream.code] (s.setPixel s.pixel.stop)

/-- STREAM_STOP (R106). -/
def execStreamStop (q : Request) (s : State) : Result := .next (takeRequest 0x0C q streamStopOwner s)

/-- STREAM_READ (R107). -/
def execStreamRead (q : Request) (s : State) : Result :=
  .next (takeRequest 0x0D q (fun t => answer .ok (streamFields t.pixel) t) s)

/-- FRAME_HEADER (R108). While a device-level reset is under way pixel packets are discarded (R176). -/
def execFrameHeader (h : FrameHeader) (s : State) : Result :=
  .next (if s.running then s.headerArrives h else s)

/-- INPUT_ROW (R109). -/
def execInputRow (row : Row) (s : State) : Result := .next (if s.running then s.rowArrives row else s)

/-- FRAME_END (R113). -/
def execFrameEnd (s : State) : Result := .next (if s.running then s.endArrives else s)

end Sys2Proof.Machine
end

