-- ==== Sys2Proof/Machine/WatchCommands.lean ====
section
/-! DEFINITION. The meanings of WATCH_SET, WATCH_CLEAR, WATCH_READ, FAULT_READ and SAMPLE (chapters 10, 11 and 2). -/

namespace Sys2Proof.Machine

/-- A watch with a new definition (R151): the baseline returns to UNKNOWN, an owed notice is withdrawn and the tripped flag
is left. -/
def Watch.define (w : Watch) (selection expected : BitVec 13) (lo hi level : Nat) : Watch :=
  { w with selection, expected, lo, hi, level, baseline := .unknown, owed := false }

/-- What the watch unit makes of WATCH_SET (R151). -/
def watchSetOwner (q : Request) (s : State) : Answer :=
  let selection := fieldAt q.body 1 2
  let expected := fieldAt q.body 3 2
  let lo := fieldAt q.body 5 2
  let hi := fieldAt q.body 7 2
  let level := fieldAt q.body 9 1
  match index8 (fieldAt q.body 0 1) with
  | none => refuse .badValue s
  | some i =>
    let sel := BitVec.ofNat 13 selection
    let exp := BitVec.ofNat 13 expected
    if 2 ^ 13 ≤ selection ∨ 2 ^ 13 ≤ expected ∨ exp &&& sel ≠ exp ∨ hi < lo ∨ 3 < level then refuse .badValue s
    else
      let w := (s.watches.get i).define sel exp lo hi level
      answer .ok (encodeWatch w) (s.setWatches (s.watches.set i w))

/-- WATCH_SET (R151). -/
def execWatchSet (q : Request) (s : State) : Result := .next (takeRequest 0x14 q (watchSetOwner q) s)

/-- The tripped flags of the watches of a set cleared, bit n naming watch n (R154). -/
def clearTripped (watches : Eight Watch) (set : Byte) : Eight Watch :=
  let one (w : Watch) (n : Nat) : Watch := if set.getLsbD n then { w with tripped := false } else w
  ⟨one watches.e0 0, one watches.e1 1, one watches.e2 2, one watches.e3 3, one watches.e4 4, one watches.e5 5,
   one watches.e6 6, one watches.e7 7⟩

/-- What the watch unit makes of WATCH_CLEAR (R154). -/
def watchClearOwner (q : Request) (s : State) : Answer :=
  let watches := clearTripped s.watches (q.body.headD 0)
  answer .ok [trippedSet watches] (s.setWatches watches)

/-- WATCH_CLEAR (R154). -/
def execWatchClear (q : Request) (s : State) : Result := .next (takeRequest 0x15 q (watchClearOwner q) s)

/-- WATCH_READ (R155). -/
def execWatchRead (q : Request) (s : State) : Result :=
  .next (takeRequest 0x16 q (fun t => answer .ok (t.watches.toList.flatMap encodeWatch) t) s)

/-- What the fault record makes of FAULT_READ: clear indication no 0, yes 1 (R171). -/
def faultReadOwner (q : Request) (s : State) : Answer :=
  match fieldAt q.body 0 1 with
  | 0 => answer .ok (encodeFaults s.faults) s
  | 1 => answer .ok (encodeFaults s.faults) (s.setFaults none)
  | _ => refuse .badValue s

/-- FAULT_READ (R171). -/
def execFaultRead (q : Request) (s : State) : Result := .next (takeRequest 0x17 q (faultReadOwner q) s)

/-- What the sample intake makes of SAMPLE (R25): the first check that fails gives the reply. -/
def sampleOwner (q : Request) (s : State) : Answer :=
  let f := sampleFields q.body
  let history := s.intake.histories.panel
  if f.source ≠ 2 then refuse .badValue s
  else if !presenceGood f.presence then refuse .badValue s
  else if !sampleLengthGood f then refuseLength q s
  else
    let t := s.setIntake (s.intake.take .panel (sampleOf f))
    if inOrder history (sampleOf f) then
      answer .ok
        (leBytes 1 t.intake.histories.panel.length ++ encodeFlag (decide (Config.historyDepth ≤ history.length))) t
    else answer .order [] t

/-- SAMPLE (R25). -/
def execSample (q : Request) (s : State) : Result := .next (takeRequest 0x20 q (sampleOwner q) s)

end Sys2Proof.Machine
end

