-- ==== Sys2Proof/Machine/Dispatch.lean ====
section
/-! DEFINITION. The dispatch of a command to its meaning, one arm for each constructor of Instr. -/

namespace Sys2Proof.Machine

/-- The effect of a command on everything but the queue of waiting commands. -/
def exec (i : Instr) (s : State) : Host.Outcome State Fault Refusal :=
  match i with
  | .identify q => Sys2Proof.Machine.execIdentify q s
  | .status q => Sys2Proof.Machine.execStatus q s
  | .subscribe q => Sys2Proof.Machine.execSubscribe q s
  | .restartStream q => Sys2Proof.Machine.execRestartStream q s
  | .restartWarm q => Sys2Proof.Machine.execRestartWarm q s
  | .restartCold q => Sys2Proof.Machine.execRestartCold q s
  | .profileOpen q => Sys2Proof.Machine.execProfileOpen q s
  | .profileWrite q => Sys2Proof.Machine.execProfileWrite q s
  | .profileClose q => Sys2Proof.Machine.execProfileClose q s
  | .profileDiscard q => Sys2Proof.Machine.execProfileDiscard q s
  | .profileQuery q => Sys2Proof.Machine.execProfileQuery q s
  | .streamConfigure q => Sys2Proof.Machine.execStreamConfigure q s
  | .streamStart q => Sys2Proof.Machine.execStreamStart q s
  | .streamStop q => Sys2Proof.Machine.execStreamStop q s
  | .streamRead q => Sys2Proof.Machine.execStreamRead q s
  | .stageWrite q => Sys2Proof.Machine.execStageWrite q s
  | .stageApply q => Sys2Proof.Machine.execStageApply q s
  | .stageCancel q => Sys2Proof.Machine.execStageCancel q s
  | .stageRead q => Sys2Proof.Machine.execStageRead q s
  | .framingCapture q => Sys2Proof.Machine.execFramingCapture q s
  | .rampContinue q => Sys2Proof.Machine.execRampContinue q s
  | .rampRestart q => Sys2Proof.Machine.execRampRestart q s
  | .rampNow q => Sys2Proof.Machine.execRampNow q s
  | .rampHalt q => Sys2Proof.Machine.execRampHalt q s
  | .watchSet q => Sys2Proof.Machine.execWatchSet q s
  | .watchClear q => Sys2Proof.Machine.execWatchClear q s
  | .watchRead q => Sys2Proof.Machine.execWatchRead q s
  | .faultRead q => Sys2Proof.Machine.execFaultRead q s
  | .sample q => Sys2Proof.Machine.execSample q s
  | .unknownKind kind q => Sys2Proof.Machine.execUnknownKind kind q s
  | .controlRecordArrival bytes => Sys2Proof.Machine.execControlRecordArrival bytes s
  | .notReadyRecord bytes => Sys2Proof.Machine.execNotReadyRecord bytes s
  | .lensRecordArrival bytes => Sys2Proof.Machine.execLensRecordArrival bytes s
  | .frameHeader h => Sys2Proof.Machine.execFrameHeader h s
  | .rampComplete h => Sys2Proof.Machine.execRampComplete h s
  | .inputRow row => Sys2Proof.Machine.execInputRow row s
  | .frameEnd => Sys2Proof.Machine.execFrameEnd s
  | .sendReply => Sys2Proof.Machine.execSendReply s
  | .sendNotice => Sys2Proof.Machine.execSendNotice s
  | .sendEnd => Sys2Proof.Machine.execSendEnd s
  | .powerOn => Sys2Proof.Machine.execPowerOn s
  | .powerLoss => Sys2Proof.Machine.execPowerLoss s
  | .resetLineAssert => Sys2Proof.Machine.execResetLineAssert s
  | .resetLineRelease => Sys2Proof.Machine.execResetLineRelease s
  | .resetEnd => Sys2Proof.Machine.execResetEnd s

end Sys2Proof.Machine
end

