-- ==== Sys2Proof/WellFormed.lean ====
section
/-! DEFINITION. The well-formed commands: those whose operands a record or a packet of the manual can carry, and
whose record is the one that its row of the table names. exec gives every command a meaning, well-formed or not. -/

namespace Sys2Proof

/-- A request fits in a record: its body has at most 1024 bytes (R181). -/
def Request.wf (q : Request) : Bool := decide (q.body.length ≤ 1024)

/-- A kind that is no request's (R188). -/
def isUnknownKind (kind : Byte) : Bool := (Machine.requestLength kind).isNone

/-- The command is well-formed: a request's body fits in a record; a RESTART or RAMP request is one that its row takes
(R175, R138); and the kind of UNKNOWN_KIND is no request kind (R188). -/
def Instr.wf : Instr → Bool
  | .identify q => q.wf
  | .status q => q.wf
  | .subscribe q => q.wf
  | .restartStream q => q.wf && Machine.restartFits 0 q
  | .restartWarm q => q.wf && Machine.restartFits 1 q
  | .restartCold q => q.wf && Machine.restartFits 2 q
  | .profileOpen q => q.wf
  | .profileWrite q => q.wf
  | .profileClose q => q.wf
  | .profileDiscard q => q.wf
  | .profileQuery q => q.wf
  | .streamConfigure q => q.wf
  | .streamStart q => q.wf
  | .streamStop q => q.wf
  | .streamRead q => q.wf
  | .stageWrite q => q.wf
  | .stageApply q => q.wf
  | .stageCancel q => q.wf
  | .stageRead q => q.wf
  | .framingCapture q => q.wf
  | .rampContinue q => q.wf && Machine.rampFits 0 q
  | .rampRestart q => q.wf && Machine.rampFits 1 q
  | .rampNow q => q.wf && Machine.rampFits 2 q
  | .rampHalt q => q.wf && Machine.rampFits 3 q
  | .watchSet q => q.wf
  | .watchClear q => q.wf
  | .watchRead q => q.wf
  | .faultRead q => q.wf
  | .sample q => q.wf
  | .unknownKind kind q => q.wf && isUnknownKind kind
  | .controlRecordArrival _ => true
  | .notReadyRecord _ => true
  | .lensRecordArrival _ => true
  | .frameHeader _ => true
  | .rampComplete _ => true
  | .inputRow _ => true
  | .frameEnd => true
  | .sendReply => true
  | .sendNotice => true
  | .sendEnd => true
  | .powerOn => true
  | .powerLoss => true
  | .resetLineAssert => true
  | .resetLineRelease => true
  | .resetEnd => true

/-- The record that a request's command takes from the inbound buffer (R183, R188); none for the other commands. -/
def Instr.record? : Instr → Option Record
  | .identify q => some ⟨0x01, q.tag, q.body⟩
  | .status q => some ⟨0x02, q.tag, q.body⟩
  | .subscribe q => some ⟨0x03, q.tag, q.body⟩
  | .restartStream q => some ⟨0x04, q.tag, q.body⟩
  | .restartWarm q => some ⟨0x04, q.tag, q.body⟩
  | .restartCold q => some ⟨0x04, q.tag, q.body⟩
  | .profileOpen q => some ⟨0x05, q.tag, q.body⟩
  | .profileWrite q => some ⟨0x06, q.tag, q.body⟩
  | .profileClose q => some ⟨0x07, q.tag, q.body⟩
  | .profileDiscard q => some ⟨0x08, q.tag, q.body⟩
  | .profileQuery q => some ⟨0x09, q.tag, q.body⟩
  | .streamConfigure q => some ⟨0x0A, q.tag, q.body⟩
  | .streamStart q => some ⟨0x0B, q.tag, q.body⟩
  | .streamStop q => some ⟨0x0C, q.tag, q.body⟩
  | .streamRead q => some ⟨0x0D, q.tag, q.body⟩
  | .stageWrite q => some ⟨0x0E, q.tag, q.body⟩
  | .stageApply q => some ⟨0x0F, q.tag, q.body⟩
  | .stageCancel q => some ⟨0x10, q.tag, q.body⟩
  | .stageRead q => some ⟨0x11, q.tag, q.body⟩
  | .framingCapture q => some ⟨0x12, q.tag, q.body⟩
  | .rampContinue q => some ⟨0x13, q.tag, q.body⟩
  | .rampRestart q => some ⟨0x13, q.tag, q.body⟩
  | .rampNow q => some ⟨0x13, q.tag, q.body⟩
  | .rampHalt q => some ⟨0x13, q.tag, q.body⟩
  | .watchSet q => some ⟨0x14, q.tag, q.body⟩
  | .watchClear q => some ⟨0x15, q.tag, q.body⟩
  | .watchRead q => some ⟨0x16, q.tag, q.body⟩
  | .faultRead q => some ⟨0x17, q.tag, q.body⟩
  | .sample q => some ⟨0x20, q.tag, q.body⟩
  | .unknownKind kind q => some ⟨kind, q.tag, q.body⟩
  | .controlRecordArrival _ => none
  | .notReadyRecord _ => none
  | .lensRecordArrival _ => none
  | .frameHeader _ => none
  | .rampComplete _ => none
  | .inputRow _ => none
  | .frameEnd => none
  | .sendReply => none
  | .sendNotice => none
  | .sendEnd => none
  | .powerOn => none
  | .powerLoss => none
  | .resetLineAssert => none
  | .resetLineRelease => none
  | .resetEnd => none

end Sys2Proof
end

