-- ==== Sys2Proof/Safety.lean ====
section
/-! DEFINITION. What a safe state of the part is, in the terms that the statements use: one invariant for each law
that the manual states of its state (R18, R28, R38, R83, R111, R112, R123, R136, R147, R170, R185, R186). -/

namespace Sys2Proof.Machine

/-! ### Histories (R23, R28) -/

/-- The code that a sample carries for an axis is a lens code (R23). -/
abbrev CodeOk (v : Option Nat) : Prop := ∀ n ∈ v, n ≤ 65535

/-- A history holds at most eight samples, in strictly increasing measurement time (R28), and their codes are lens
codes (R23). -/
abbrev HistoryOk (h : List Sample) : Prop :=
  h.length ≤ 8 ∧ (h.Pairwise fun a b => a.time < b.time) ∧
  ∀ x ∈ h, CodeOk x.codes.focus ∧ CodeOk x.codes.zoom ∧ CodeOk x.codes.iris

/-- The three histories are in order (R28). -/
abbrev State.HistoryInv (s : State) : Prop :=
  HistoryOk s.intake.histories.mount ∧ HistoryOk s.intake.histories.motor ∧ HistoryOk s.intake.histories.panel

/-! ### Axis tracks (R38) -/

/-- The held value is a lens code and is absent exactly in NONE, and the source in use is none exactly in LOST and NONE
(R38). -/
abbrev TrackOk (x : Track) : Prop :=
  (x.held = none ↔ x.state = .none) ∧ (x.source = none ↔ x.state = .lost ∨ x.state = .none) ∧ CodeOk x.held

/-- The three tracks are consistent (R38). -/
abbrev State.TrackInv (s : State) : Prop :=
  TrackOk s.tracks.focus ∧ TrackOk s.tracks.zoom ∧ TrackOk s.tracks.iris

/-! ### Settings (R128, R136) -/

/-- A clear changed flag means equal copies, for every parameter (R136). -/
abbrev CopiesAgree (x : Settings) : Prop :=
  (x.changed.profile = false → x.staged.profile = x.active.profile) ∧
  (x.changed.refMode = false → x.staged.refMode = x.active.refMode) ∧
  (x.changed.refMag = false → x.staged.refMag = x.active.refMag) ∧
  (x.changed.focusOrder = false → x.staged.focusOrder = x.active.focusOrder) ∧
  (x.changed.zoomOrder = false → x.staged.zoomOrder = x.active.zoomOrder) ∧
  (x.changed.irisOrder = false → x.staged.irisOrder = x.active.irisOrder) ∧
  (x.changed.coastLimit = false → x.staged.coastLimit = x.active.coastLimit) ∧
  (x.changed.lostLimit = false → x.staged.lostLimit = x.active.lostLimit) ∧
  (x.changed.lossAction = false → x.staged.lossAction = x.active.lossAction) ∧
  (x.changed.fadeFrames = false → x.staged.fadeFrames = x.active.fadeFrames)

/-- The coast limit does not exceed the lost limit, in either copy (R44, R128). -/
abbrev LimitsPaired (x : Settings) : Prop :=
  x.staged.coastLimit ≤ x.staged.lostLimit ∧ x.active.coastLimit ≤ x.active.lostLimit

/-- The settings stage is consistent (R128, R136). -/
abbrev State.SettingsInv (s : State) : Prop := CopiesAgree s.settings ∧ LimitsPaired s.settings

/-! ### The profile store (R3, R16, R18) -/

/-- The slot is IN_USE. -/
def Slot.isInUse : Slot → Bool
  | .live .inUse _ => true
  | _ => false

/-- The slot holds the lower half of a pair profile. -/
def Slot.isPairHead : Slot → Bool
  | .live _ p => p.pair
  | _ => false

/-- The store is consistent: a slot is IN_USE exactly when the active PROFILE names it (R18); a slot named by the staged
PROFILE is READY or IN_USE while the changed flag is set, and the copies agree while it is clear (R16, R129, R136); a
PARTNER slot names its partner, which heads a pair, and the partner of a slot that heads a pair is PARTNER (R3). -/
abbrev State.StoreInv (s : State) : Prop :=
  (∀ i, (s.slots.get i).isInUse = true ↔ s.settings.active.profile = some i) ∧
  (s.settings.changed.profile = true → ∀ i, s.settings.staged.profile = some i → (s.slots.get i).usable = true) ∧
  (s.settings.changed.profile = false → s.settings.staged.profile = s.settings.active.profile) ∧
  (∀ i j, s.slots.get i = .partner j → j = partnerOf i ∧ (s.slots.get j).isPairHead = true) ∧
  (∀ i, (s.slots.get i).isPairHead = true → s.slots.get (partnerOf i) = .partner i)

/-! ### The contents of profiles (R1, R2, R10, R13) -/

/-- A number within two bounds. -/
abbrev Within (lo hi n : Nat) : Prop := lo ≤ n ∧ n ≤ hi

/-- A profile has the shape of its geometry, and what has been written of it is in range (R1, R2, R5, R10). -/
abbrev ProfileOk (p : Profile) : Prop :=
  p.geometry.admissible = true ∧ p.size = p.geometry.size ∧ p.pair = p.geometry.isPair ∧
  p.body.focusNodes.length = p.geometry.nf ∧ p.body.zoomNodes.length = p.geometry.nz ∧
  p.body.irisNodes.length = p.geometry.ni ∧
  p.body.magnification.length = p.geometry.nf * p.geometry.nz ∧
  p.body.shading.length = p.geometry.nf * p.geometry.nz * p.geometry.ni ∧
  (∀ x ∈ p.body.focusNodes, CodeOk x) ∧ (∀ x ∈ p.body.zoomNodes, CodeOk x) ∧ (∀ x ∈ p.body.irisNodes, CodeOk x) ∧
  (∀ x ∈ p.body.magnification, ∀ n ∈ x, Within 16384 65535 n) ∧
  (∀ x ∈ p.body.shading, ∀ set ∈ x, set.length = 51 ∧ ∀ n ∈ set, Within 2048 65535 n)

/-- A finished profile is wholly written, and the node codes of each axis strictly increase (R12, R13). -/
abbrev ProfileDone (p : Profile) : Prop :=
  p.body.marksClear = 0 ∧ (codesOf p.body.focusNodes).Pairwise (· < ·) ∧
  (codesOf p.body.zoomNodes).Pairwise (· < ·) ∧ (codesOf p.body.irisNodes).Pairwise (· < ·)

/-- A slot's profile is well shaped, and finished when the slot is READY or IN_USE (R14). -/
def SlotOk : Slot → Prop
  | .live .opened p => ProfileOk p
  | .live _ p => ProfileOk p ∧ ProfileDone p
  | _ => True

/-- Every slot's contents are as the rules of uploading leave them (R1, R10 to R14). -/
abbrev State.ContentInv (s : State) : Prop := ∀ i, SlotOk (s.slots.get i)

/-! ### Ramps (R137, R147) -/

/-- A ramp is within its ranges, and an idle ramp stands at its target (R137, R147). -/
abbrev RampOk (r : Ramp) : Prop :=
  r.value ≤ 256 ∧ r.target ≤ 256 ∧ r.start ≤ 256 ∧ r.total ≤ 4095 ∧ r.done ≤ r.total ∧
  (r.running = true → r.done < r.total) ∧ (r.running = false → r.value = r.target) ∧
  (∀ b ∈ r.buffered, b.target ≤ 256 ∧ b.total ≤ 4095)

/-- The ramp unit is within its ranges (R147). -/
abbrev State.RampInv (s : State) : Prop :=
  RampOk s.ramps.breathing ∧ RampOk s.ramps.shading ∧ s.ramps.fade ≤ 256

/-! ### Faults and counts (R170, 00_scope 5.6) -/

/-- The following count never exceeds 255 (R170). -/
abbrev State.FaultInv (s : State) : Prop := ∀ e ∈ s.faults, e.following ≤ 255

/-- Every saturating 16-bit count stays within 65535: the CRC failure and not-ready counts (R187), the lens link's error count
(R193), the out-of-order counts (R29), the frames count (R158), and the saturation counts of the frame in progress and of the
retained report (R120, R172). -/
abbrev State.CountInv (s : State) : Prop :=
  s.control.crcFailures ≤ 65535 ∧ s.control.notReady ≤ 65535 ∧ s.lens.errors ≤ 65535 ∧
  s.intake.outOfOrder.mount ≤ 65535 ∧ s.intake.outOfOrder.motor ≤ 65535 ∧ s.intake.outOfOrder.panel ≤ 65535 ∧
  s.notices.framesCount ≤ 65535 ∧ (∀ f ∈ s.pixel.frame, f.report.saturation ≤ 65535) ∧
  (∀ r ∈ s.notices.retained, r.saturation ≤ 65535)

/-! ### The control link (R185, R186, R189) -/

/-- The record being sent is a RESTARTED notice. -/
def sendingRestarted : Option Sending → Bool
  | some (.notice r) => r.kind == 0x40
  | _ => false

/-- The receiver is receiving a record whose start byte arrived while ready was asserted. -/
def Receiver.isReceiving : Receiver → Bool
  | .receiving _ => true
  | _ => false

/-- The control link is consistent: its buffers keep their capacities (R185, R189), and at most seven records wait while one
is being received (R185); ready is asserted exactly while fewer than eight records wait, the part is powered with no reset
under way, and no RESTARTED notice is outstanding (R186); nothing is being sent without power or during a reset; and
RESTARTED is not pending while it is being sent. -/
abbrev State.LinkInv (s : State) : Prop :=
  s.control.inbound.length ≤ 8 ∧ s.control.replies.length ≤ 16 ∧
  (s.control.receiver.isReceiving = true → s.control.inbound.length ≤ 7) ∧
  (s.control.ready = true ↔
    s.running = true ∧ s.control.inbound.length < 8 ∧ s.restartedOutstanding = false) ∧
  (s.running = false → s.control.sending = none) ∧
  (sendingRestarted s.control.sending = true → s.notices.restarted = false)

/-! ### The pixel path (R54, R102, R104, R111, R112) -/

/-- A configuration that STREAM_CONFIGURE accepts (R54, R103, R104). -/
abbrev ConfigOk (c : StreamConfig) : Prop :=
  64 ≤ c.width ∧ c.width ≤ 4096 ∧ 64 ≤ c.height ∧ c.height ≤ 3072 ∧ 4 ≤ c.bands ∧ c.bands ≤ c.height / 8 ∧
  65536 ≤ c.sMax ∧ c.sMax ≤ 81920 ∧ c.cx2 ≤ 2 * (c.width - 1) ∧ c.cy2 ≤ 2 * (c.height - 1) ∧
  1 ≤ c.ax ∧ 1 ≤ c.ay ∧
  c.hb = (c.height + c.bands - 1) / c.bands ∧ c.bandCount = (c.height + c.hb - 1) / c.hb ∧
  c.lag = c.cy2 * (c.sMax - 65536) / (2 * c.sMax) + 2 ∧
  c.lead = (2 * (c.height - 1) - c.cy2) * (c.sMax - 65536) / (2 * c.sMax) ∧
  c.depth = c.lag + c.lead + 2 ∧ c.capacity = min 512 (1048576 / c.width) ∧ c.depth ≤ c.capacity

/-- The row indices the line store holds when `received` rows have arrived (R111). -/
def heldIndices (c : StreamConfig) (received : Nat) : List Nat :=
  List.range' (received - c.depth) (received - (received - c.depth))

/-- The frame in progress agrees with its configuration between two packets: the counts of R109, the line store of R111 and
the output header of R121. -/
abbrev FrameOk (c : StreamConfig) (f : Frame) (store : List (Nat × Row)) : Prop :=
  f.header.width = c.width ∧ f.header.height = c.height ∧
  f.report.frameNumber = f.header.frameNumber.toNat ∧
  f.report.rowsReceived ≤ c.height ∧ f.report.rowsEmitted = f.report.rowsReceived - c.lag ∧
  f.report.bandsPlanned = (f.report.rowsReceived + c.hb - 1) / c.hb ∧
  (f.headerSent = true ↔ 0 < f.report.rowsEmitted) ∧
  f.report.truncated = false ∧ f.report.aborted = false ∧
  store.map Prod.fst = heldIndices c f.report.rowsReceived ∧ ∀ e ∈ store, e.2.length = c.width

/-- The pixel path is consistent (R102): a configuration is an accepted one; a frame is in progress exactly in IN_FRAME and
STOPPING; outside STOPPED the stream is configured; the line store is empty with no frame; in STOPPED the skip and orphan
flags are clear; and the stream is STOPPED without power and during a reset. -/
abbrev State.PixelInv (s : State) : Prop :=
  (∀ c ∈ s.pixel.config, ConfigOk c) ∧
  (s.pixel.frame.isSome = true ↔ s.pixel.stream = .inFrame ∨ s.pixel.stream = .stopping) ∧
  (s.pixel.stream ≠ .stopped → s.pixel.config.isSome = true) ∧
  (s.pixel.frame = none → s.pixel.lineStore = []) ∧
  (s.pixel.stream = .stopped → s.pixel.skip = false ∧ s.pixel.orphan = false) ∧
  (s.running = false → s.pixel.stream = .stopped) ∧
  (∀ c ∈ s.pixel.config, ∀ f ∈ s.pixel.frame, FrameOk c f s.pixel.lineStore)

/-- The plan queue holds the plans of the bands that are planned and not wholly emitted, lowest first (R63, R64). -/
abbrev State.QueueInv (s : State) : Prop :=
  (s.pixel.frame = none → s.planner.queue = []) ∧
  (∀ c ∈ s.pixel.config, ∀ f ∈ s.pixel.frame,
    s.planner.queue.map Plan.band =
      (List.range f.report.bandsPlanned).filter fun b => decide (f.report.rowsEmitted < (b + 1) * c.hb))

/-! ### Plans (R83, R93) -/

/-- A plan is within the ranges of R59, R83 and R93 for a maximum scale, and at strength 0 it is at unity (R82, R92). -/
abbrev PlanOk (sMax : Nat) (p : Plan) : Prop :=
  Within 65536 sMax p.s ∧ Within 65536 sMax p.sEff ∧ p.kb ≤ 256 ∧ p.kv ≤ 256 ∧
  p.knots.length = 51 ∧ (∀ n ∈ p.knots, Within 2048 65535 n) ∧
  (p.kb = 0 → p.sEff = 65536) ∧ (p.kv = 0 → p.knots = neutralKnots)

/-- Every plan in the queue is within the range that the configuration sets, and the latest plan within that of the part
(R83, R93). -/
abbrev State.PlanInv (s : State) : Prop :=
  (∀ c ∈ s.pixel.config, ∀ p ∈ s.planner.queue, PlanOk c.sMax p) ∧ (∀ p ∈ s.planner.latest, PlanOk 81920 p)

/-! ### The output port (R121, R123) -/

/-- How far the packets of the output port have come: no frame open, or a frame open with its header and the number of rows
since. -/
inductive VideoScan where
  | closed
  | opened (h : FrameHeader) (rows : Nat)
  deriving DecidableEq, Repr

/-- One packet after another: a header opens a frame, rows follow it, and one trailer ends it, which counts the rows and,
unless it is marked ABORTED, ends a frame of exactly as many rows as the header's height (R121, R123). None when the packet
may not stand there. -/
def VideoScan.next (v : VideoScan) (p : VideoPacket) : Option VideoScan :=
  match v, p with
  | .closed, .header h => some (.opened h 0)
  | .opened h n, .row _ => some (.opened h (n + 1))
  | .opened h n, .trailer r =>
    if r.rowsEmitted = n ∧ (r.aborted = true ∨ n = h.height) then some .closed else none
  | _, _ => none

/-- The packets of the output port in order. -/
def scanVideo (video : List VideoPacket) : Option VideoScan := video.foldlM VideoScan.next .closed

/-- The output port stands where the frame in progress says: open with as many rows as it has emitted, or closed. -/
abbrev State.VideoInv (s : State) : Prop :=
  scanVideo s.outputs.video =
    some (match s.pixel.frame with
      | some f => if f.headerSent then .opened f.header f.report.rowsEmitted else .closed
      | none => .closed)

/-! ### The words of the statements -/

/-- A reply to a request of a kind: the kind plus 0x80, the request's tag, a result code and the fields after it (R183). -/
def replyTo (kind : Byte) (q : Request) (code : ResultCode) (fields : List Byte) : Record :=
  ⟨kind + 0x80, q.tag, code.code :: fields⟩

/-- What the control link itself does when it takes its oldest record and answers it, and nothing else: the record leaves the
inbound buffer (R185), ready is asserted again when that brings the count back to 7 and no RESTARTED is outstanding (R186),
and the reply enters the reply queue as its newest entry (R188). -/
def State.answered (s : State) (reply : Record) : State :=
  { s with
    control :=
      { s.control with
        inbound := s.control.inbound.tail
        ready := s.control.ready || (decide (s.control.inbound.length = 8) && !s.restartedOutstanding)
        replies := s.control.replies ++ [reply] } }

/-- A count one higher, stopping at 65535 (00_scope 5.6). -/
def countUp (n : Nat) : Nat := if n < 65535 then n + 1 else n

/-- The fault record and the notice state after one fault report (R169). -/
def State.faulted (s : State) (kind : FaultKind) (frame row : Option Nat) : State :=
  match s.faults with
  | none => { s with faults := some ⟨kind, frame, row, 0⟩, notices := { s.notices with fault := true } }
  | some e => { s with faults := some { e with following := if e.following < 255 then e.following + 1 else e.following } }

/-- What an abort puts out for a frame in progress: its header if that has not left, and a trailer marked ABORTED (R124). -/
def abortPackets (frame : Option Frame) : List VideoPacket :=
  match frame with
  | some f => (if f.headerSent then [] else [.header f.header]) ++ [.trailer { f.report with aborted := true }]
  | none => []

/-- What the end of a sending part way leaves on the transmit line (R189). -/
def cutRecords (sending : Option Sending) : List LinkOutput :=
  match sending with
  | some (.reply r) => [.cutShort r]
  | some (.notice r) => [.cutShort r]
  | none => []

/-- The request opens `profile` under a slot request: its five fields pass the checks of R5, and the profile has the
descriptor of R2 and R8, with every mark clear. -/
def OpensProfile (q : Request) (slotRequest : Byte) (p : Profile) : Prop :=
  ∃ (nf nz ni e : Byte) (label : List Byte),
    q.body = [nf, nz, ni, e, slotRequest] ++ label ∧
    Within 2 16 nf.toNat ∧ Within 1 8 nz.toNat ∧ Within 1 8 ni.toNat ∧ e.toNat ≤ 1 ∧
    label.length ≤ 16 ∧ (∀ ch ∈ label, Within 0x20 0x7E ch.toNat) ∧
    p.geometry = ⟨nf.toNat, nz.toNat, ni.toNat⟩ ∧ p.infinity = (if e = 1 then .high else .low) ∧ p.label = label ∧
    p.size = 64 + 2 * (nf.toNat + nz.toNat + ni.toNat) + 2 * nf.toNat * nz.toNat
      + 102 * nf.toNat * nz.toNat * ni.toNat ∧
    p.pair = decide (65536 < p.size) ∧
    p.body.focusNodes = List.replicate nf.toNat none ∧ p.body.zoomNodes = List.replicate nz.toNat none ∧
    p.body.irisNodes = List.replicate ni.toNat none ∧
    p.body.magnification = List.replicate (nf.toNat * nz.toNat) none ∧
    p.body.shading = List.replicate (nf.toNat * nz.toNat * ni.toNat) none

/-- The elements of a section, each as its list of codes (R1). -/
def Body.elements (b : Body) : Section5 → List (Option (List Nat))
  | .focusNodes => b.focusNodes.map fun x => x.map fun n => [n]
  | .zoomNodes => b.zoomNodes.map fun x => x.map fun n => [n]
  | .irisNodes => b.irisNodes.map fun x => x.map fun n => [n]
  | .magnification => b.magnification.map fun x => x.map fun n => [n]
  | .shading => b.shading

/-- The node codes of an axis (R1). -/
def Body.nodesOf (b : Body) : Axis → List Nat
  | .focus => codesOf b.focusNodes
  | .zoom => codesOf b.zoomNodes
  | .iris => codesOf b.irisNodes

/-- Whether condition `n` of R61 holds in a plan for a watch of zone `lo` to `hi`. -/
def conditionHolds (p : Plan) (lo hi : Nat) : Nat → Bool
  | 0 => p.conditions.focusFresh
  | 1 => p.conditions.focusLive
  | 2 => p.conditions.zoomLive
  | 3 => p.conditions.irisLive
  | 4 => p.conditions.focusInRange
  | 5 => p.conditions.zoomInRange
  | 6 => p.conditions.irisInRange
  | 7 => p.conditions.scaleClampedLow
  | 8 => p.conditions.scaleClampedHigh
  | 9 => p.conditions.profilePresent
  | 10 => p.conditions.lensKnown
  | 11 => p.conditions.fullStrength
  | 12 => p.axes.focus.value.any fun v => decide (lo ≤ v ∧ v ≤ hi)
  | _ => false

/-- The watch conforms to the plan: every selected condition has its expected value (R152). -/
abbrev ConformsTo (w : Watch) (p : Plan) : Prop :=
  ∀ n < 13, w.selection.getLsbD n = true → conditionHolds p w.lo w.hi n = w.expected.getLsbD n

/-- The number of two bytes of a body, least significant first (R183). -/
def wordOf (body : List Byte) (i : Nat) : Nat := (body.getD i 0).toNat + 256 * (body.getD (i + 1) 0).toNat

/-- The sample that a sample body carries, byte by byte (R23, R183): its time in bytes 2 to 7, least significant first, and from
byte 8 on two bytes for each axis that the presence set of byte 1 names, in the order focus, zoom, iris. -/
def wireSample (body : List Byte) : Sample :=
  let focus := (body.getD 1 0).getLsbD 0
  let zoom := (body.getD 1 0).getLsbD 1
  let iris := (body.getD 1 0).getLsbD 2
  { time := wordOf body 2 + 65536 * wordOf body 4 + 4294967296 * wordOf body 6
    codes :=
      { focus := if focus then some (wordOf body 8) else none
        zoom := if zoom then some (wordOf body (if focus then 10 else 8)) else none
        iris :=
          if iris then
            some (wordOf body (if focus ∧ zoom then 12 else if focus ∨ zoom then 10 else 8))
          else none } }

/-- The number of axes that a sample body's presence set names (R183). -/
def axesNamed (body : List Byte) : Nat :=
  ((body.getD 1 0).getLsbD 0).toNat + ((body.getD 1 0).getLsbD 1).toNat + ((body.getD 1 0).getLsbD 2).toNat

/-- The codes of a source order: MOUNT 0, MOTOR 1, PANEL 2 (R183). -/
def orderCodes (order : List Source) : List Byte :=
  order.map fun
    | .mount => 0
    | .motor => 1
    | .panel => 2

/-- A parameter number and the bytes after it in a STAGE_WRITE give this value, and the value lies in the range of R125: a
slot 0 to 7 or NONE, a reference magnification 16384 to 65535, one to three distinct sources, a coast limit 0 to 100000, a
lost limit 1000 to 2000000, 1 to 255 fade frames (R127, R183). -/
def Setting.CodedBy (number : Nat) (value : List Byte) : Setting → Prop
  | .profile slot => number = 0 ∧ value = [match slot with | none => 0xFF | some i => BitVec.ofNat 8 i.val]
  | .refMode m => number = 1 ∧ value = [match m with | .tightest => 0 | .infinity => 1 | .captured => 2]
  | .refMag n => number = 2 ∧ Within 16384 65535 n ∧ value = leBytes 2 n
  | .focusOrder order => number = 3 ∧ Within 1 3 order.length ∧ order.Nodup ∧ value = orderCodes order
  | .zoomOrder order => number = 4 ∧ Within 1 3 order.length ∧ order.Nodup ∧ value = orderCodes order
  | .irisOrder order => number = 5 ∧ Within 1 3 order.length ∧ order.Nodup ∧ value = orderCodes order
  | .coastLimit n => number = 6 ∧ n ≤ 100000 ∧ value = leBytes 4 n
  | .lostLimit n => number = 7 ∧ Within 1000 2000000 n ∧ value = leBytes 4 n
  | .lossAction action => number = 8 ∧ value = [match action with | .hold => 0 | .fade => 1]
  | .fadeFrames n => number = 9 ∧ Within 1 255 n ∧ value = leBytes 1 n

/-- A source is LOST for an axis at band time `t`: none of its samples carries the axis, or its newest that does is older than
the lost limit (R40). -/
abbrev State.SourceLost (s : State) (a : Axis) (t : Nat) (k : Source) : Prop :=
  ∀ x ∈ (carrying a (s.intake.histories.get k)).getLast?, x.1 + s.settings.active.lostLimit < t

end Sys2Proof.Machine
end

