-- ==== Sys2Proof/Certificates/Slice0/Obligations.lean ====
section
/-! DEFINITION. The statements for the provers. Each says of the part what rules of the manual say of it; where a clause is a
choice of the model, the docstring names its entry of the assumption log. -/

open Sys2Proof Sys2Proof.Machine

/-! ### The queue of commands and the taking of requests -/

/-- A step takes the command at the front of the queue and executes it on the state with the rest of the queue. The queue is the
model's own, and its order is the order of events (log entries 1 and 6). -/
def Obligations.StepRunsFrontCommand : Prop :=
  ∀ (c : Instr) (rest : List Instr) (s : State), s.pending = c :: rest →
    step s = exec c { s with pending := rest }

/-- Every command goes on to a next state and leaves the queue of waiting commands alone, and a step on an empty queue
changes nothing (the model's choice: log entries 1 and 6; that nothing stops the part is read from the manual: log entry 15). -/
def Obligations.EveryCommandGoesOn : Prop :=
  (∀ (c : Instr) (s : State), ∃ t, exec c s = .next t ∧ t.pending = s.pending) ∧
  (∀ s : State, s.pending = [] → step s = .next s)

/-- The taking of a request (R188): its record leaves the buffer and exactly one reply, of its kind plus 0x80 or of kind 0xFF
and with its tag, enters the queue (R190); the taking of a WARM or COLD RESTART instead begins a reset that holds its tag. That
each row of RESTART and of RAMP takes a record of no coded level or form, or of a wrong length, is the model's choice (log
entry 5). -/
def Obligations.TakenRequestIsAnsweredOnce : Prop :=
  ∀ (c : Instr) (r : Record) (s : State), c.wf = true → c.record? = some r → s.takes r = true →
    if r.kind = 0x04 ∧ (r.body = [1] ∨ r.body = [2]) then
      ∃ t, exec c s = .next t ∧ t.control.replies = [] ∧ t.control.inbound = [] ∧
        t.resetRun = some ⟨if r.body = [1] then .warmRequest else .coldRequest, r.tag⟩
    else
      ∃ t body, exec c s = .next t ∧ t.control.inbound = s.control.inbound.tail ∧ t.resetRun = s.resetRun ∧
        t.control.replies = s.control.replies ++
          [⟨if (requestLength r.kind).isSome then r.kind + 0x80 else 0xFF, r.tag, body⟩]

/-- A request that the control link does not take (it is not the oldest, no reply entry is free, a reset is under way or there
is no power) changes nothing: its command finds nothing to do (the model's choice: log entry 1). -/
def Obligations.UntakenRequestWaits : Prop :=
  ∀ (c : Instr) (r : Record) (s : State), c.record? = some r → s.takes r = false → exec c s = .next s

/-- A request whose body length breaks the table of 12.3 is answered BAD_LENGTH with the length received, and nothing else
happens (R188 step 2). That each of the three rows of RESTART and of the four rows of RAMP takes such a record is the model's
choice (log entry 5). -/
def Obligations.WrongLengthIsAnswered : Prop :=
  ∀ (c : Instr) (r : Record) (s : State), c.wf = true → c.record? = some r → s.takes r = true →
    (requestLength r.kind).isSome = true → lengthAgrees r.kind r.body.length = false →
    exec c s = .next (s.answered ⟨r.kind + 0x80, r.tag, 2 :: leBytes 2 r.body.length⟩)

/-- A refused request changes nothing but the link that carries its refusal: when the reply's result code is not OK, the
state is that of the taking and the reply alone. The one exception is the ORDER of a SAMPLE, which is counted (R26). -/
def Obligations.RefusedRequestChangesNothing : Prop :=
  ∀ (c : Instr) (r reply : Record) (s t : State), c.wf = true → c.record? = some r → s.takes r = true →
    exec c s = .next t → t.control.replies = s.control.replies ++ [reply] →
    reply.body.head? ≠ some 0 → ¬ (r.kind = 0x20 ∧ reply.body.head? = some 9) →
    t = s.answered reply

/-- A record of no request kind is answered BAD_KIND, with kind 0xFF, its tag and its kind (R188 step 1). -/
def Obligations.UnknownKindIsAnswered : Prop :=
  ∀ (kind : Byte) (q : Request) (s : State), ¬ (1 ≤ kind.toNat ∧ kind.toNat ≤ 0x17) → kind ≠ 0x20 →
    s.takes ⟨kind, q.tag, q.body⟩ = true →
    exec (.unknownKind kind q) s = .next (s.answered ⟨0xFF, q.tag, [1, kind]⟩)

/-! ### The links -/

/-- A good record whose start byte finds ready asserted enters the inbound buffer as its newest, and ready falls when that
brings the count to 8 (R181, R185, R186). -/
def Obligations.GoodRecordEntersBuffer : Prop :=
  ∀ (r : Record) (s : State), r.body.length ≤ 1024 → s.powered = true → s.control.receiver = .hunting →
    s.control.ready = true →
    exec (.controlRecordArrival (recordBytes r)) s =
      .next { s with
        control := { s.control with
          inbound := s.control.inbound ++ [r], ready := decide (s.control.inbound.length + 1 < 8) } }

/-- A record whose length is out of range, or whose CRC is not the CRC of its bytes, counts one CRC failure on its link, and the
hunt goes on from the byte after its start byte: the arrival does what the arrival of those bytes does once the failure is
counted, so a record that begins among them is received, and with no start byte among them nothing else happens (R182, R193).
That ready is judged when such a byte is examined again is the model's reading (log entry 3). -/
def Obligations.BadRecordIsCounted : Prop :=
  ∀ (l0 l1 : Byte) (rest : List Byte) (s : State),
    let len := leNat [l0, l1]
    (len < 2 ∨ 1026 < len ∨
      (len + 2 ≤ rest.length ∧ (crc16 (l0 :: l1 :: rest.take len)).toNat ≠ leNat ((rest.drop len).take 2))) →
    (s.powered = true → s.control.receiver = .hunting → s.control.ready = true →
      let failed : State := { s with control := { s.control with crcFailures := countUp s.control.crcFailures } }
      exec (.controlRecordArrival (startByte :: l0 :: l1 :: rest)) s =
        exec (.controlRecordArrival (l0 :: l1 :: rest)) failed ∧
      (startByte ∉ l0 :: l1 :: rest → exec (.controlRecordArrival (startByte :: l0 :: l1 :: rest)) s = .next failed)) ∧
    (s.running = true → s.lens.receiver = .hunting →
      let failed : State := { s with lens := { s.lens with errors := countUp s.lens.errors } }
      exec (.lensRecordArrival (startByte :: l0 :: l1 :: rest)) s =
        exec (.lensRecordArrival (l0 :: l1 :: rest)) failed ∧
      (startByte ∉ l0 :: l1 :: rest → exec (.lensRecordArrival (startByte :: l0 :: l1 :: rest)) s = .next failed))

/-- A start byte that finds ready deasserted is counted once (R187). Its record is passed over whole and unchecked, whatever its
CRC, and is not answered; after a length out of range the hunt goes on from the byte after the start byte. What comes after
the passed record, or after such a start byte, is then received as if it came in an arrival of its own. -/
def Obligations.NotReadyRecordIsCounted : Prop :=
  ∀ s : State, s.powered = true → s.control.receiver = .hunting → s.control.ready = false →
    let counted : State := { s with control := { s.control with notReady := countUp s.control.notReady } }
    (∀ r : Record, r.body.length ≤ 1024 → exec (.notReadyRecord (recordBytes r)) s = .next counted) ∧
    (∀ (l0 l1 : Byte) (unchecked more : List Byte), Within 2 1026 (leNat [l0, l1]) →
      unchecked.length = leNat [l0, l1] + 2 →
      exec (.notReadyRecord (startByte :: l0 :: l1 :: unchecked)) s = .next counted ∧
      exec (.notReadyRecord (startByte :: l0 :: l1 :: (unchecked ++ more))) s = exec (.notReadyRecord more) counted) ∧
    (∀ (l0 l1 : Byte) (rest : List Byte), ¬ Within 2 1026 (leNat [l0, l1]) →
      (startByte ∉ l0 :: l1 :: rest → exec (.notReadyRecord (startByte :: l0 :: l1 :: rest)) s = .next counted) ∧
      exec (.notReadyRecord (startByte :: l0 :: l1 :: rest)) s = exec (.notReadyRecord (l0 :: l1 :: rest)) counted)

/-- The receivers take bytes as they come: two arrivals one after the other do what one arrival of all the bytes does, on
either link (R182, R187). How the control link judges a byte that it examines again is the model's reading (log entry 3). -/
def Obligations.BytesArriveInAnySplit : Prop :=
  ∀ (a b : List Byte) (s t : State),
    (exec (.controlRecordArrival a) s = .next t →
      exec (.controlRecordArrival b) t = exec (.controlRecordArrival (a ++ b)) s) ∧
    (exec (.lensRecordArrival a) s = .next t →
      exec (.lensRecordArrival b) t = exec (.lensRecordArrival (a ++ b)) s)

/-- The invariant of the control link (R185, R186, R189) is kept by every step: the buffers keep their capacities and ready is
asserted exactly when R186 says. Every saturating 16-bit count stays within 65535: the CRC failure, not-ready, lens error,
out-of-order and frames counts and the saturation counts of the frame reports (R29, R120, R158, R187, R193). -/
def Obligations.LinkInvariantKept : Prop :=
  ∀ s t : State, step s = .next t → (s.LinkInv → t.LinkInv) ∧ (s.CountInv → t.CountInv)

/-- The arbiter's sending of a reply, and the end of a sending (R189): the oldest reply starts to be sent; at the end its entry
is freed and its bytes have gone out; and the end of RESTARTED asserts ready (R179, R186). -/
def Obligations.RepliesAreSentInOrder : Prop :=
  (∀ (s : State) (r : Record) (rest : List Record), s.running = true → s.control.sending = none →
    s.control.replies = r :: rest →
    exec .sendReply s = .next { s with control := { s.control with sending := some (.reply r) } }) ∧
  (∀ (s : State) (r : Record), s.running = true → s.control.sending = some (.reply r) →
    exec .sendEnd s =
      .next { s with
        control := { s.control with sending := none, replies := s.control.replies.tail }
        outputs := { s.outputs with link := s.outputs.link ++ [.whole (recordBytes r)] } }) ∧
  (∀ (s : State) (r : Record), s.running = true → s.control.sending = some (.notice r) →
    exec .sendEnd s =
      .next { s with
        control := { s.control with
          sending := none
          ready := if r.kind = 0x40 then decide (s.control.inbound.length < 8) else s.control.ready }
        outputs := { s.outputs with link := s.outputs.link ++ [.whole (recordBytes r)] } })

/-- The sending of the offered notice (R160): its record is composed with kind 0x40 + n and, for RESTARTED, the restart tag;
its own flag is cleared and no other; FRAME_SUMMARY sets the frames count to 0; nothing else changes. The fields of each kind
are those of R161 in its order, with the fault record of R169 and the frame report of R172; the number of bytes of some of
them is the model's choice (log entry 12), and how a field is coded the statement on the reporting requests says. -/
def Obligations.SentNoticeClearsItsFlag : Prop :=
  (∀ (s : State) (o : Offer), s.running = true → s.control.sending = none → s.control.replies = [] →
    s.offered = some o →
    ∃ t, exec .sendNotice s = .next t ∧
      t.control = { s.control with
        sending := some (.notice
          ⟨0x40 + BitVec.ofNat 8 o.kind.bit, if o = .restarted then s.notices.restartTag else 0, s.noticeFields o⟩) } ∧
      t.owes o = false ∧ (∀ o', o' ≠ o → t.owes o' = s.owes o') ∧
      t.notices.framesCount = (if o = .summary then 0 else s.notices.framesCount) ∧
      t.notices.retained = s.notices.retained ∧ t.notices.restartTag = s.notices.restartTag ∧
      (∀ i, { t.watches.get i with owed := (s.watches.get i).owed } = s.watches.get i) ∧
      { t with control := s.control, notices := s.notices, watches := s.watches } = s) ∧
  (∀ s : State,
    let latest : List Byte :=
      match s.planner.latest with
      | some p => leBytes 4 p.frameNumber ++ leBytes 2 p.band
      | none => [0, 0, 0, 0, 0, 0]
    s.noticeFields .restarted = [s.resetCause.code] ++ leBytes 2 s.control.subscriptions.toNat ∧
    (s.faults = none → s.noticeFields .fault = [0, 0xFF, 0, 0, 0, 0, 0, 0, 0, 0, 0]) ∧
    (∀ e, s.faults = some e →
      s.noticeFields .fault =
        [1, e.kind.code] ++ encodeOptional 4 e.frame ++ encodeOptional 2 e.row ++ leBytes 1 e.following) ∧
    (∀ i : Fin 8,
      let w := s.watches.get i
      ∃ differing : BitVec 13,
        (∀ n < 13, differing.getLsbD n = s.planner.latest.any fun p =>
          w.selection.getLsbD n && (conditionHolds p w.lo w.hi n != w.expected.getLsbD n)) ∧
        s.noticeFields (.watch i) =
          [BitVec.ofNat 8 i.val] ++ leBytes 2 w.selection.toNat ++ leBytes 2 w.expected.toNat ++ leBytes 2 w.lo
            ++ leBytes 2 w.hi ++ leBytes 1 w.level ++ [w.baseline.code] ++ encodeFlag w.tripped ++ leBytes 1 w.level
            ++ latest ++ leBytes 2 differing.toNat) ∧
    s.noticeFields .source =
      encodeTrack s.tracks.focus ++ encodeTrack s.tracks.zoom ++ encodeTrack s.tracks.iris ∧
    s.noticeFields .framing =
      [s.settings.active.refMode.code] ++ leBytes 2 s.settings.active.refMag ++ leBytes 2 s.settings.staged.refMag
        ++ encodeFlag s.settings.changed.refMag ++ encodeFlag s.planner.captureOwed ++ latest ∧
    s.noticeFields .ramp = encodeRamp s.ramps.breathing ++ encodeRamp s.ramps.shading ++ leBytes 2 s.ramps.fade ∧
    s.noticeFields .stream =
      [s.pixel.stream.code] ++ encodeFlag s.pixel.config.isSome ++ encodeOptional 4 s.pixel.lastFrame ∧
    ∀ r, s.notices.retained = some r →
      s.noticeFields .summary =
        leBytes 4 r.frameNumber ++ leBytes 2 r.rowsReceived ++ leBytes 2 r.rowsEmitted ++ leBytes 2 r.bandsPlanned
          ++ encodeOptional 1 (r.slot.map Fin.val) ++ encodeOptional 4 r.firstScale ++ encodeOptional 4 r.leastScale
          ++ encodeOptional 4 r.greatestScale ++ encodeOptional 2 r.kb ++ encodeOptional 2 r.kv
          ++ encodeEnum? AxisState.code r.axisStates.focus ++ encodeEnum? AxisState.code r.axisStates.zoom
          ++ encodeEnum? AxisState.code r.axisStates.iris
          ++ encodeFlag r.clampedLow ++ encodeFlag r.clampedHigh ++ encodeFlag r.outOfRange.focus
          ++ encodeFlag r.outOfRange.zoom ++ encodeFlag r.outOfRange.iris ++ encodeFlag r.focusFresh
          ++ leBytes 2 r.saturation ++ encodeFlag r.truncated ++ encodeFlag r.long ++ encodeFlag r.aborted
          ++ leBytes 2 s.notices.framesCount)

/-- The notice offered is eligible, no eligible notice has a higher priority, and among those of its priority it stands first in
the kind order, the watches by index; none is offered only when none is eligible. RESTARTED has priority 4, FAULT 3, a WATCH
notice its watch's level, SOURCE and FRAMING 2, RAMP and STREAM 1, FRAME_SUMMARY 0 (R159); the kinds are ordered, and named
by the bits of the subscription set, as 10.4 lists them (R162). -/
def Obligations.OfferHasHighestPriority : Prop :=
  (offers = [.restarted, .fault, .watch 0, .watch 1, .watch 2, .watch 3, .watch 4, .watch 5, .watch 6, .watch 7, .source,
    .framing, .ramp, .stream, .summary]) ∧
  (∀ i : Fin 8, [Offer.restarted, .fault, .watch i, .source, .framing, .ramp, .stream, .summary].map
    (fun o => o.kind.bit) = [0, 1, 2, 3, 4, 5, 6, 7]) ∧
  ∀ s : State,
    ([Offer.restarted, .fault, .source, .framing, .ramp, .stream, .summary].map s.priority = [4, 3, 2, 2, 1, 1, 0]) ∧
    (∀ i, s.priority (.watch i) = (s.watches.get i).level) ∧
    ([Offer.restarted, .fault, .source, .framing, .ramp, .stream, .summary].map s.owes =
      [s.notices.restarted, s.notices.fault, s.notices.source, s.notices.framing, s.notices.ramp, s.notices.stream,
       s.notices.summary]) ∧
    (∀ i, s.owes (.watch i) = (s.watches.get i).owed) ∧
    (∀ o, s.eligible o = true ↔
      s.owes o = true ∧ (o = .restarted ∨ s.control.subscriptions.getLsbD o.kind.bit = true)) ∧
    (s.offered = none ↔ ∀ o, s.eligible o = false) ∧
    (∀ o, s.offered = some o →
      s.eligible o = true ∧
      ∀ o', s.eligible o' = true →
        s.priority o' < s.priority o ∨ (s.priority o' = s.priority o ∧ offers.idxOf o ≤ offers.idxOf o'))

/-- A good record on the lens link (R24, R193): a sample of MOUNT or MOTOR whose body passes R24 joins its source's history, or
is counted out of order, by R26 and R27; any other record is counted as an error. The sample is the one that its bytes carry:
the time in six bytes and the code of each axis present in two, least significant first, in the order focus, zoom, iris (R23,
R183). -/
def Obligations.LensRecordIsJudged : Prop :=
  ∀ (r : Record) (s : State), r.body.length ≤ 1024 → s.running = true → s.lens.receiver = .hunting →
    (∀ k : Source, r.kind = 0x20 → 8 ≤ r.body.length →
      (fieldAt r.body 0 1 = 0 ∧ k = .mount ∨ fieldAt r.body 0 1 = 1 ∧ k = .motor) →
      1 ≤ fieldAt r.body 1 1 → fieldAt r.body 1 1 ≤ 7 →
      r.body.length = 8 + 2 * axesNamed r.body →
      ((∀ y ∈ (s.intake.histories.get k).getLast?, y.time < fieldAt r.body 2 6) →
        exec (.lensRecordArrival (recordBytes r)) s =
          .next { s with
            intake := { s.intake with
              histories := s.intake.histories.set k
                ((if (s.intake.histories.get k).length < 8 then s.intake.histories.get k
                  else (s.intake.histories.get k).tail) ++ [wireSample r.body]) } }) ∧
      (∀ y ∈ (s.intake.histories.get k).getLast?, fieldAt r.body 2 6 ≤ y.time →
        exec (.lensRecordArrival (recordBytes r)) s =
          .next { s with
            intake := { s.intake with
              outOfOrder := s.intake.outOfOrder.set k (countUp (s.intake.outOfOrder.get k)) } })) ∧
    ((r.kind ≠ 0x20 ∨ r.body.length < 8 ∨ 2 ≤ fieldAt r.body 0 1 ∨ fieldAt r.body 1 1 = 0 ∨ 8 ≤ fieldAt r.body 1 1 ∨
        r.body.length ≠ 8 + 2 * axesNamed r.body) →
      exec (.lensRecordArrival (recordBytes r)) s =
        .next { s with lens := { s.lens with errors := countUp s.lens.errors } })

/-! ### Requests that report -/

/-- IDENTIFY, STATUS, STREAM_READ, STAGE_READ, WATCH_READ and PROFILE_QUERY are answered OK with their fields and change nothing
(R20, R107, R134, R155, R191, R192). The fields stand in the order of their rules, and are coded by R183 and R184: numbers
least significant byte first, a flag in one byte, a presence byte before what may be absent, an enumeration in the order of
its rule with 0xFF for none. The number of bytes of some fields, and the forms of a buffered command and of a slot that may
be none, are the model's choice (log entry 12). -/
def Obligations.ReportsChangeNothing : Prop :=
  (∀ (q : Request) (s : State), q.body = [] →
    (s.takes ⟨0x01, q.tag, q.body⟩ = true →
      exec (.identify q) s = .next (s.answered (replyTo 0x01 q .ok
        ([0x45, 0x46, 0x4A, 0x4F, 0x52, 0x41, 0x20, 0x32, 0x34, 0x36, 0x30, 1, 0x9C, 0x09, 1, 1,
          8, 0, 0, 1, 0, 8, 8, 8, 16, 0, 0, 0x10, 0, 0, 2] ++ [s.resetCause.code])))) ∧
    (s.takes ⟨0x02, q.tag, q.body⟩ = true →
      exec (.status q) s = .next (s.answered (replyTo 0x02 q .ok (statusFields s)))) ∧
    (s.takes ⟨0x0D, q.tag, q.body⟩ = true →
      exec (.streamRead q) s = .next (s.answered (replyTo 0x0D q .ok (streamFields s.pixel)))) ∧
    (s.takes ⟨0x11, q.tag, q.body⟩ = true →
      exec (.stageRead q) s = .next (s.answered (replyTo 0x11 q .ok (stageFields s.settings)))) ∧
    (s.takes ⟨0x16, q.tag, q.body⟩ = true →
      exec (.watchRead q) s =
        .next (s.answered (replyTo 0x16 q .ok (s.watches.toList.flatMap encodeWatch))))) ∧
  (∀ (q : Request) (n : Byte) (s : State), q.body = [n] → s.takes ⟨0x09, q.tag, q.body⟩ = true →
    (∀ i : Fin 8, n.toNat = i.val →
      exec (.profileQuery q) s = .next (s.answered (replyTo 0x09 q .ok (queryFields s i)))) ∧
    (8 ≤ n.toNat → exec (.profileQuery q) s = .next (s.answered (replyTo 0x09 q .badValue [])))) ∧
  -- The codes of R183 and R184.
  ((∀ n, leBytes 1 n = [BitVec.ofNat 8 n] ∧ leBytes 2 n = [BitVec.ofNat 8 n, BitVec.ofNat 8 (n / 256)] ∧
      (∀ k, leBytes (k + 1) n = BitVec.ofNat 8 n :: leBytes k (n / 256))) ∧
    encodeFlag false = [0] ∧ encodeFlag true = [1] ∧
    (∀ k n, encodeOptional k (some n) = 1 :: leBytes k n ∧ encodeOptional k none = 0 :: leBytes k 0) ∧
    (∀ a, encodeEnum? Source.code (some a) = [a.code]) ∧ encodeEnum? Source.code none = [0xFF] ∧
    (∀ a, encodeEnum? AxisState.code (some a) = [a.code]) ∧ encodeEnum? AxisState.code none = [0xFF] ∧
    (∀ i, encodeEnum? slotByte (some i) = [BitVec.ofNat 8 i.val]) ∧ encodeEnum? slotByte none = [0xFF] ∧
    [Source.mount, .motor, .panel].map Source.code = [0, 1, 2] ∧
    [AxisState.fresh, .coasting, .holding, .lost, .none].map AxisState.code = [0, 1, 2, 3, 4] ∧
    [InfinityEnd.low, .high].map InfinityEnd.code = [0, 1] ∧
    (∀ p i, [Slot.empty, .live .opened p, .live .ready p, .live .inUse p, .partner i].map Slot.code = [0, 1, 2, 3, 4]) ∧
    [RefMode.tightest, .infinity, .captured].map RefMode.code = [0, 1, 2] ∧
    [LossAction.hold, .fade].map LossAction.code = [0, 1] ∧
    [ApplyPending.none, .frame, .band].map ApplyPending.code = [0, 1, 2] ∧
    [Stream.stopped, .waiting, .inFrame, .stopping].map Stream.code = [0, 1, 2, 3] ∧
    [BufferedForm.continue, .restart].map BufferedForm.code = [0, 1] ∧
    [Baseline.unknown, .conform, .nonconform].map Baseline.code = [0, 1, 2] ∧
    [FaultKind.format, .headerMissing, .inputShort, .inputLong].map FaultKind.code = [0, 1, 2, 3] ∧
    [ResetCause.powerOn, .resetLine, .coldRequest, .warmRequest].map ResetCause.code = [0, 1, 2, 3] ∧
    (∀ a b c, encodeOrder [a] = [1, a.code, 0xFF, 0xFF] ∧ encodeOrder [a, b] = [2, a.code, b.code, 0xFF] ∧
      encodeOrder [a, b, c] = [3, a.code, b.code, c.code]) ∧
    (∀ x, encodeSetting (.profile x) = encodeEnum? slotByte x) ∧ (∀ m, encodeSetting (.refMode m) = [m.code]) ∧
    (∀ n, encodeSetting (.refMag n) = leBytes 2 n ∧ encodeSetting (.coastLimit n) = leBytes 4 n ∧
      encodeSetting (.lostLimit n) = leBytes 4 n ∧ encodeSetting (.fadeFrames n) = leBytes 1 n) ∧
    (∀ x, encodeSetting (.focusOrder x) = encodeOrder x ∧ encodeSetting (.zoomOrder x) = encodeOrder x ∧
      encodeSetting (.irisOrder x) = encodeOrder x) ∧
    (∀ a, encodeSetting (.lossAction a) = [a.code])) ∧
  -- The groups of fields.
  ((∀ x : Track, encodeTrack x =
      encodeEnum? Source.code x.source ++ [x.state.code] ++ encodeOptional 2 x.held
        ++ encodeEnum? Source.code x.prevSource ++ [x.prevState.code]) ∧
    encodeBuffered none = [0xFF] ∧
    (∀ b, encodeBuffered (some b) = [b.form.code] ++ leBytes 2 b.target ++ leBytes 2 b.total) ∧
    (∀ r : Ramp, encodeRamp r =
      leBytes 2 r.value ++ leBytes 2 r.target ++ leBytes 2 r.start ++ leBytes 2 r.total ++ leBytes 2 r.done
        ++ encodeFlag r.running ++ encodeBuffered r.buffered) ∧
    (∀ w : Watch, encodeWatch w =
      leBytes 2 w.selection.toNat ++ leBytes 2 w.expected.toNat ++ leBytes 2 w.lo ++ leBytes 2 w.hi ++ leBytes 1 w.level
        ++ [w.baseline.code] ++ encodeFlag w.tripped ++ encodeFlag w.owed) ∧
    (∀ (b : Body) (k : Section5) (clear : Option Nat),
      (∀ e, clear = some e ↔ (b.marks k)[e]? = some false ∧ ∀ j < e, (b.marks k)[j]? = some true) →
      encodeSection b k = leBytes 2 ((b.marks k).count true) ++ encodeOptional 2 clear)) ∧
  -- The replies to STATUS, STREAM_READ, STAGE_READ and PROFILE_QUERY.
  (∀ (s : State) (tripped : Byte), (∀ i : Fin 8, tripped.getLsbD i = (s.watches.get i).tripped) →
    statusFields s =
      [s.pixel.stream.code] ++ encodeFlag s.pixel.config.isSome ++ encodeOptional 4 s.pixel.lastFrame
        ++ encodeTrack s.tracks.focus ++ encodeTrack s.tracks.zoom ++ encodeTrack s.tracks.iris
        ++ encodeRamp s.ramps.breathing ++ encodeRamp s.ramps.shading ++ leBytes 2 s.ramps.fade
        ++ encodeEnum? slotByte s.settings.active.profile ++ [s.settings.apply.code] ++ encodeFlag s.planner.captureOwed
        ++ [tripped] ++ encodeFlag s.faults.isSome
        ++ leBytes 2 s.control.crcFailures ++ leBytes 2 s.control.notReady ++ leBytes 2 s.lens.errors
        ++ leBytes 2 s.intake.outOfOrder.mount ++ leBytes 2 s.intake.outOfOrder.motor
        ++ leBytes 2 s.intake.outOfOrder.panel ++ [s.resetCause.code]) ∧
  (∀ x : PixelPath,
    let configured : List Byte :=
      match x.config with
      | some c =>
        [1] ++ leBytes 2 c.width ++ leBytes 2 c.height ++ leBytes 2 c.bands ++ leBytes 4 c.sMax ++ leBytes 2 c.cx2
          ++ leBytes 2 c.cy2 ++ leBytes 2 c.ax ++ leBytes 2 c.ay ++ leBytes 2 c.hb ++ leBytes 2 c.bandCount
          ++ leBytes 2 c.lag ++ leBytes 2 c.lead ++ leBytes 2 c.depth ++ leBytes 2 c.capacity
      | none => [0]
    let frame : List Byte :=
      match x.frame with
      | some f =>
        leBytes 4 f.header.frameNumber.toNat ++ leBytes 6 f.header.t0.toNat ++ leBytes 2 f.header.rowPeriod.toNat
          ++ leBytes 2 f.report.rowsReceived ++ leBytes 2 f.report.rowsEmitted ++ encodeFlag f.report.truncated
          ++ encodeFlag f.report.long
      | none => []
    streamFields x =
      [x.stream.code] ++ configured ++ frame ++ encodeOptional 4 x.lastFrame ++ leBytes 2 x.lineStore.length) ∧
  (∀ x : Settings,
    let shown (active staged : Setting) (changed : Bool) : List Byte :=
      encodeSetting active ++ encodeSetting staged ++ encodeFlag changed
    stageFields x =
      shown (.profile x.active.profile) (.profile x.staged.profile) x.changed.profile
        ++ shown (.refMode x.active.refMode) (.refMode x.staged.refMode) x.changed.refMode
        ++ shown (.refMag x.active.refMag) (.refMag x.staged.refMag) x.changed.refMag
        ++ shown (.focusOrder x.active.focusOrder) (.focusOrder x.staged.focusOrder) x.changed.focusOrder
        ++ shown (.zoomOrder x.active.zoomOrder) (.zoomOrder x.staged.zoomOrder) x.changed.zoomOrder
        ++ shown (.irisOrder x.active.irisOrder) (.irisOrder x.staged.irisOrder) x.changed.irisOrder
        ++ shown (.coastLimit x.active.coastLimit) (.coastLimit x.staged.coastLimit) x.changed.coastLimit
        ++ shown (.lostLimit x.active.lostLimit) (.lostLimit x.staged.lostLimit) x.changed.lostLimit
        ++ shown (.lossAction x.active.lossAction) (.lossAction x.staged.lossAction) x.changed.lossAction
        ++ shown (.fadeFrames x.active.fadeFrames) (.fadeFrames x.staged.fadeFrames) x.changed.fadeFrames
        ++ [x.apply.code]) ∧
  (∀ (s : State) (i : Fin 8),
    (s.slots.get i = .empty → queryFields s i = [0]) ∧
    (∀ j, s.slots.get i = .partner j → queryFields s i = [4, BitVec.ofNat 8 j.val]) ∧
    ∀ stage p, s.slots.get i = .live stage p →
      queryFields s i =
        [(s.slots.get i).code] ++ encodeFlag p.pair ++ leBytes 1 p.geometry.nf ++ leBytes 1 p.geometry.nz
          ++ leBytes 1 p.geometry.ni ++ [p.infinity.code] ++ leBytes 1 p.label.length ++ p.label ++ leBytes 4 p.size
          ++ encodeSection p.body .focusNodes ++ encodeSection p.body .zoomNodes ++ encodeSection p.body .irisNodes
          ++ encodeSection p.body .magnification ++ encodeSection p.body .shading
          ++ (if stage = .opened then []
              else encodeFlag (s.settings.changed.profile && decide (s.settings.staged.profile = some i))))

/-- SUBSCRIBE (R162, R158): a set that names a kind beyond 0x47 is refused; any other replaces the subscription set, and the
removal of FRAME_SUMMARY discards the retained report and clears its flag. That RESTARTED, when named, stays in the set and
in the reply is the model's choice (log entry 12). -/
def Obligations.SubscribeReplacesTheSet : Prop :=
  ∀ (q : Request) (lo hi : Byte) (s : State), q.body = [lo, hi] → s.takes ⟨0x03, q.tag, q.body⟩ = true →
    (hi ≠ 0 → exec (.subscribe q) s = .next (s.answered (replyTo 0x03 q .badValue []))) ∧
    (hi = 0 →
      let removed := s.control.subscriptions.getLsbD 7 && !lo.getLsbD 7
      let notices := if removed then { s.notices with retained := none, summary := false } else s.notices
      exec (.subscribe q) s =
        .next ({ s with control := { s.control with subscriptions := lo }, notices }.answered
          (replyTo 0x03 q .ok (encodeSet lo ++ encodeSet (pendingKinds notices s.watches)))))

/-! ### Samples -/

/-- Every history stays within eight samples of strictly increasing measurement time and lens codes (R28, R23). -/
def Obligations.HistoryInvariantKept : Prop :=
  ∀ s t : State, s.HistoryInv → step s = .next t → t.HistoryInv

/-- SAMPLE is judged by the five checks of R25 in order, the first that fails giving the reply, and an accepted sample joins
the PANEL history. The sample is the one that its bytes carry: the time in six bytes and the code of each axis present in two,
least significant first, in the order focus, zoom, iris (R23, R183). -/
def Obligations.SampleRequestIsJudged : Prop :=
  ∀ (q : Request) (s : State), s.takes ⟨0x20, q.tag, q.body⟩ = true →
    let n := q.body.length
    let history := s.intake.histories.panel
    let x := wireSample q.body
    let joined := (if history.length < 8 then history else history.tail) ++ [x]
    exec (.sample q) s = .next (
      if n < 8 then s.answered (replyTo 0x20 q .badLength (leBytes 2 n))
      else if fieldAt q.body 0 1 ≠ 2 then s.answered (replyTo 0x20 q .badValue [])
      else if fieldAt q.body 1 1 = 0 ∨ 8 ≤ fieldAt q.body 1 1 then s.answered (replyTo 0x20 q .badValue [])
      else if n ≠ 8 + 2 * axesNamed q.body then s.answered (replyTo 0x20 q .badLength (leBytes 2 n))
      else if (history.getLast?.any fun y => decide (fieldAt q.body 2 6 ≤ y.time)) = true then
        { s with
          intake := { s.intake with
            outOfOrder := { s.intake.outOfOrder with panel := countUp s.intake.outOfOrder.panel } } }.answered
          (replyTo 0x20 q .order [])
      else
        { s with
          intake := { s.intake with histories := { s.intake.histories with panel := joined } } }.answered
          (replyTo 0x20 q .ok (leBytes 1 joined.length ++ encodeFlag (decide (8 ≤ history.length)))))

/-! ### The profile store -/

/-- PROFILE_OPEN with a geometry, infinity end, label or slot request that breaks R5 is refused with BAD_VALUE and changes
nothing. -/
def Obligations.ProfileOpenChecksItsFields : Prop :=
  ∀ (q : Request) (nf nz ni e request : Byte) (label : List Byte) (s : State),
    q.body = [nf, nz, ni, e, request] ++ label → s.takes ⟨0x05, q.tag, q.body⟩ = true →
    (¬ Within 2 16 nf.toNat ∨ ¬ Within 1 8 nz.toNat ∨ ¬ Within 1 8 ni.toNat ∨ 2 ≤ e.toNat ∨ 16 < label.length ∨
      (∃ ch ∈ label, ¬ Within 0x20 0x7E ch.toNat) ∨ (8 ≤ request.toNat ∧ request ≠ 0xFF)) →
    exec (.profileOpen q) s = .next (s.answered (replyTo 0x05 q .badValue []))

/-- A single profile opened with ANY takes the lowest EMPTY slot whose partner is not EMPTY, else the lowest EMPTY slot, else
the request is refused with NO_SLOT (R6); the chosen slot becomes OPEN with the new profile (R8). -/
def Obligations.SingleProfileFillsHalfPairsFirst : Prop :=
  ∀ (q : Request) (p : Profile) (s : State), OpensProfile q 0xFF p → p.size ≤ 65536 →
    s.takes ⟨0x05, q.tag, q.body⟩ = true →
    (∀ i : Fin 8,
      (s.slots.get i = .empty ∧ s.slots.get (partnerOf i) ≠ .empty ∧
          (∀ j < i, s.slots.get j = .empty → s.slots.get (partnerOf j) = .empty) ∨
        s.slots.get i = .empty ∧ (∀ j < i, s.slots.get j ≠ .empty) ∧
          (∀ j, s.slots.get j = .empty → s.slots.get (partnerOf j) = .empty)) →
      exec (.profileOpen q) s =
        .next ({ s with slots := s.slots.set i (.live .opened p) }.answered
          (replyTo 0x05 q .ok ([slotByte i] ++ leBytes 4 p.size ++ [0])))) ∧
    ((∀ j, s.slots.get j ≠ .empty) →
      exec (.profileOpen q) s = .next (s.answered (replyTo 0x05 q .noSlot [])))

/-- A pair profile opened with ANY takes the lowest even slot that is EMPTY with its partner, else NO_SLOT; a named slot must be
EMPTY, and for a pair profile even and EMPTY with its partner, else SLOT_STATE (R7, R8). -/
def Obligations.PairAndNamedAllocation : Prop :=
  ∀ (q : Request) (p : Profile) (s : State), s.takes ⟨0x05, q.tag, q.body⟩ = true →
    let wholePair (i : Fin 8) : Prop :=
      i.val % 2 = 0 ∧ s.slots.get i = .empty ∧ s.slots.get (partnerOf i) = .empty
    let openedPair (i : Fin 8) : State :=
      { s with slots := (s.slots.set i (.live .opened p)).set (partnerOf i) (.partner i) }.answered
        (replyTo 0x05 q .ok ([slotByte i] ++ leBytes 4 p.size ++ [1]))
    (OpensProfile q 0xFF p → 65536 < p.size →
      (∀ i, wholePair i → (∀ j < i, ¬ wholePair j) → exec (.profileOpen q) s = .next (openedPair i)) ∧
      ((∀ i, ¬ wholePair i) → exec (.profileOpen q) s = .next (s.answered (replyTo 0x05 q .noSlot [])))) ∧
    (∀ i : Fin 8, OpensProfile q (slotByte i) p →
      (65536 < p.size → wholePair i → exec (.profileOpen q) s = .next (openedPair i)) ∧
      (65536 < p.size → ¬ wholePair i →
        exec (.profileOpen q) s = .next (s.answered (replyTo 0x05 q .slotState []))) ∧
      (p.size ≤ 65536 → s.slots.get i = .empty →
        exec (.profileOpen q) s =
          .next ({ s with slots := s.slots.set i (.live .opened p) }.answered
            (replyTo 0x05 q .ok ([slotByte i] ++ leBytes 4 p.size ++ [0])))) ∧
      (p.size ≤ 65536 → s.slots.get i ≠ .empty →
        exec (.profileOpen q) s = .next (s.answered (replyTo 0x05 q .slotState []))))

/-- PROFILE_WRITE (R9 to R11): a good run into an OPEN slot writes its elements and no other, and marks them; a run of a
wrong length, beyond its section or with a code too low, and a slot that is not OPEN, are refused; a section value outside 0
to 4 is refused with BAD_VALUE before the length of the run is judged. An element is one code of two bytes, least significant
first, up to 240 to a run, and for SHADING 51 codes in 102 bytes, up to 8. The number of bytes of the counts of marks is the
model's choice (log entry 12). -/
def Obligations.ProfileWriteStoresItsRun : Prop :=
  (∀ (q : Request) (n : Byte) (s : State), 4 ≤ q.body.length → q.body[1]? = some n → 4 < n.toNat →
    s.takes ⟨0x06, q.tag, q.body⟩ = true →
    exec (.profileWrite q) s = .next (s.answered (replyTo 0x06 q .badValue []))) ∧
  ∀ (q : Request) (k : Section5) (elements : List Byte) (s : State),
    let first := fieldAt q.body 2 2
    let run := runElements k elements
    let size := if k = .shading then 102 else 2
    let most := if k = .shading then 8 else 240
    4 ≤ q.body.length → elements = q.body.drop 4 → q.body[1]? = some k.code → s.takes ⟨0x06, q.tag, q.body⟩ = true →
    (¬ (elements.length % size = 0 ∧ Within 1 most (elements.length / size)) →
      exec (.profileWrite q) s = .next (s.answered (replyTo 0x06 q .badLength (leBytes 2 q.body.length)))) ∧
    (elements.length % size = 0 → Within 1 most (elements.length / size) →
      (run.length = elements.length / size ∧
        ∀ j < run.length, ∃ codes, run[j]? = some codes ∧ codes.length = size / 2 ∧
          ∀ i < size / 2, codes[i]? = some (wordOf elements (j * size + 2 * i))) ∧
      (8 ≤ fieldAt q.body 0 1 → exec (.profileWrite q) s = .next (s.answered (replyTo 0x06 q .badValue []))) ∧
      ∀ i : Fin 8, fieldAt q.body 0 1 = i.val →
        ((∀ p, s.slots.get i ≠ .live .opened p) →
          exec (.profileWrite q) s = .next (s.answered (replyTo 0x06 q .slotState []))) ∧
        ∀ p, s.slots.get i = .live .opened p → ProfileOk p →
          p.geometry.count k = (p.body.elements k).length ∧
          ((p.geometry.count k < first + run.length ∨
              (∃ x ∈ run, ∃ n ∈ x, k = .magnification ∧ n < 16384 ∨ k = .shading ∧ n < 2048)) →
            exec (.profileWrite q) s = .next (s.answered (replyTo 0x06 q .badValue []))) ∧
          (first + run.length ≤ p.geometry.count k →
            (∀ x ∈ run, ∀ n ∈ x, (k = .magnification → 16384 ≤ n) ∧ (k = .shading → 2048 ≤ n)) →
            ∃ body,
              (∀ k', k' ≠ k → body.elements k' = p.body.elements k') ∧
              (∀ j, (body.elements k)[j]? =
                if first ≤ j ∧ j < first + run.length then run[j - first]?.map some else (p.body.elements k)[j]?) ∧
              body.marksSet k = (body.elements k).countP Option.isSome ∧
              body.marksClear = ([Section5.focusNodes, .zoomNodes, .irisNodes, .magnification, .shading].map fun k' =>
                (body.elements k').countP Option.isNone).sum ∧
              exec (.profileWrite q) s =
                .next ({ s with slots := s.slots.set i (.live .opened { p with body }) }.answered
                  (replyTo 0x06 q .ok ([k.code] ++ leBytes 2 (body.marksSet k) ++ leBytes 2 body.marksClear)))))

/-- PROFILE_CLOSE (R12 to R14): INCOMPLETE at the first clear mark in section order, then ORDER at the first node that is not
above the one before it, and otherwise the slot becomes READY. The number of bytes of the two indices is the model's choice
(log entry 12). -/
def Obligations.ProfileCloseChecksAndReadies : Prop :=
  ∀ (q : Request) (n : Byte) (s : State), q.body = [n] → s.takes ⟨0x07, q.tag, q.body⟩ = true →
    (8 ≤ n.toNat → exec (.profileClose q) s = .next (s.answered (replyTo 0x07 q .badValue []))) ∧
    ∀ i : Fin 8, n.toNat = i.val →
      ((∀ p, s.slots.get i ≠ .live .opened p) →
        exec (.profileClose q) s = .next (s.answered (replyTo 0x07 q .slotState []))) ∧
      ∀ p, s.slots.get i = .live .opened p →
        (∀ (k : Section5) (e : Nat), (p.body.marks k)[e]? = some false →
          (∀ j < e, (p.body.marks k)[j]? = some true) →
          (∀ k', k'.code.toNat < k.code.toNat → ∀ m ∈ p.body.marks k', m = true) →
          exec (.profileClose q) s = .next (s.answered (replyTo 0x07 q .incomplete ([k.code] ++ leBytes 2 e)))) ∧
        ((∀ k, ∀ m ∈ p.body.marks k, m = true) →
          (∀ (a : Axis) (e : Nat) (v w : Nat), (p.body.nodesOf a)[e]? = some v → (p.body.nodesOf a)[e + 1]? = some w →
            w ≤ v → ((p.body.nodesOf a).take (e + 1)).Pairwise (· < ·) →
            (∀ a', a'.code.toNat < a.code.toNat → (p.body.nodesOf a').Pairwise (· < ·)) →
            exec (.profileClose q) s =
              .next (s.answered (replyTo 0x07 q .order ([a.code] ++ leBytes 1 (e + 1))))) ∧
          ((∀ a, (p.body.nodesOf a).Pairwise (· < ·)) →
            exec (.profileClose q) s =
              .next ({ s with slots := s.slots.set i (.live .ready p) }.answered
                (replyTo 0x07 q .ok ([slotByte i] ++ leBytes 4 p.size)))))

/-- PROFILE_DISCARD (R15, R16): an OPEN slot, or a READY one that is not held, becomes EMPTY, with its partner for a pair
profile; an EMPTY, PARTNER or IN_USE slot is refused with SLOT_STATE and a held READY slot with SLOT_HELD. -/
def Obligations.ProfileDiscardEmptiesTheSlot : Prop :=
  ∀ (q : Request) (n : Byte) (s : State), q.body = [n] → s.takes ⟨0x08, q.tag, q.body⟩ = true →
    (8 ≤ n.toNat → exec (.profileDiscard q) s = .next (s.answered (replyTo 0x08 q .badValue []))) ∧
    ∀ i : Fin 8, n.toNat = i.val →
      let held := s.settings.changed.profile = true ∧ s.settings.staged.profile = some i
      ((s.slots.get i = .empty ∨ (∃ j, s.slots.get i = .partner j) ∨ (∃ p, s.slots.get i = .live .inUse p)) →
        exec (.profileDiscard q) s = .next (s.answered (replyTo 0x08 q .slotState []))) ∧
      (∀ p, s.slots.get i = .live .ready p → held →
        exec (.profileDiscard q) s = .next (s.answered (replyTo 0x08 q .slotHeld []))) ∧
      (∀ p, (s.slots.get i = .live .opened p ∨ s.slots.get i = .live .ready p ∧ ¬ held) →
        exec (.profileDiscard q) s =
          .next ({ s with
              slots := if p.pair then (s.slots.set i .empty).set (partnerOf i) .empty else s.slots.set i .empty }.answered
            (replyTo 0x08 q .ok ([slotByte i] ++ encodeFlag p.pair))))

/-- The store stays consistent: the IN_USE slot is the one that the active PROFILE names (R18), the slot that the staged PROFILE
names awaits its apply READY or IN_USE (R16), and pairs stay pairs (R3). R18's partner is read as the PARTNER slot of a pair
profile (log entry 17). -/
def Obligations.StoreInvariantKept : Prop :=
  ∀ s t : State, s.StoreInv → step s = .next t → t.StoreInv

/-- Every slot's profile keeps the shape of its geometry and codes in range, and a READY or IN_USE slot holds a profile wholly
written whose node codes strictly increase (R1, R2, R10 to R14, R19). -/
def Obligations.ContentInvariantKept : Prop :=
  ∀ s t : State, s.ContentInv → step s = .next t → t.ContentInv

/-! ### Staged settings -/

/-- STAGE_WRITE (R127 to R129): a parameter number beyond 9, a value of a wrong length, a value outside the range of R125, a
limit that breaks the pairing and a slot that PROFILE may not name are refused in that order; an accepted value is staged, its changed flag is
set, and no other parameter, flag or copy changes. -/
def Obligations.StageWriteStagesTheValue : Prop :=
  ∀ (q : Request) (n : Byte) (value : List Byte) (s : State), q.body = n :: value →
    s.takes ⟨0x0E, q.tag, q.body⟩ = true →
    let lengths : List (Option Nat) := [some 1, some 1, some 2, none, none, none, some 4, some 4, some 1, some 1]
    (9 < n.toNat → exec (.stageWrite q) s = .next (s.answered (replyTo 0x0E q .badValue []))) ∧
    (∀ len, lengths[n.toNat]? = some (some len) → value.length ≠ len →
      exec (.stageWrite q) s = .next (s.answered (replyTo 0x0E q .badLength (leBytes 2 q.body.length)))) ∧
    ((∀ len, lengths[n.toNat]? = some (some len) → value.length = len) → n.toNat ≤ 9 →
      ((∀ v : Setting, ¬ v.CodedBy n.toNat value) →
        exec (.stageWrite q) s = .next (s.answered (replyTo 0x0E q .badValue []))) ∧
      ∀ v : Setting, v.CodedBy n.toNat value →
        let unpaired :=
          (∃ x, v = .coastLimit x ∧ s.settings.staged.lostLimit < x) ∨
          (∃ x, v = .lostLimit x ∧ x < s.settings.staged.coastLimit)
        let unusable := ∃ i, v = .profile (some i) ∧ (s.slots.get i = .empty ∨
          (∃ j, s.slots.get i = .partner j) ∨ ∃ p, s.slots.get i = .live .opened p)
        (unpaired → exec (.stageWrite q) s = .next (s.answered (replyTo 0x0E q .badValue []))) ∧
        (unusable → exec (.stageWrite q) s = .next (s.answered (replyTo 0x0E q .slotState []))) ∧
        (¬ unpaired → ¬ unusable → ∃ x : Settings,
          x.active = s.settings.active ∧ x.apply = s.settings.apply ∧
          x.staged.toList[n.toNat]? = some v ∧ x.changed.toList[n.toNat]? = some true ∧
          (∀ m, m ≠ n.toNat → x.staged.toList[m]? = s.settings.staged.toList[m]? ∧
            x.changed.toList[m]? = s.settings.changed.toList[m]?) ∧
          exec (.stageWrite q) s =
            .next ({ s with settings := x }.answered (replyTo 0x0E q .ok
              ([n] ++ encodeSetting v ++ encodeFlag (decide (s.settings.active.toList[n.toNat]? ≠ some v))
                ++ [s.settings.apply.code])))))

/-- STAGE_APPLY (R130, R131, R17): in STOPPED the staged values take effect at once, the flags clear, and a change of PROFILE
moves the old slot to READY and the new one to IN_USE; otherwise the apply-pending state is raised to the sooner. At
every moment of effect the parameters whose flag is set take their staged value and the others keep theirs. The byte of
its reply is the model's choice (log entry 12). -/
def Obligations.StageApplyTakesEffect : Prop :=
  (∀ s : State, ∃ (slots : Eight Slot) (active : Params),
    s.applyNow = { s with slots, settings := ⟨active, s.settings.staged, Changed.clear, .none⟩ } ∧
    (∀ m : Nat, active.toList[m]? = if s.settings.changed.toList[m]? = some true then s.settings.staged.toList[m]?
      else s.settings.active.toList[m]?) ∧
    ∀ i, slots.get i =
      if s.settings.active.profile = active.profile then s.slots.get i
      else if s.settings.active.profile = some i then (s.slots.get i).leaveUse
      else if active.profile = some i then (s.slots.get i).enterUse
      else s.slots.get i) ∧
  (∀ p, (Slot.live .inUse p).leaveUse = .live .ready p ∧ (Slot.live .ready p).enterUse = .live .inUse p) ∧
  ∀ (q : Request) (n : Byte) (s : State), q.body = [n] → s.takes ⟨0x0F, q.tag, q.body⟩ = true →
    (2 ≤ n.toNat → exec (.stageApply q) s = .next (s.answered (replyTo 0x0F q .badValue []))) ∧
    (n.toNat ≤ 1 → s.pixel.stream = .stopped → s.SettingsInv →
      ∃ slots : Eight Slot,
        (∀ i, slots.get i =
          if s.settings.active.profile = s.settings.staged.profile then s.slots.get i
          else if s.settings.active.profile = some i then (s.slots.get i).leaveUse
          else if s.settings.staged.profile = some i then (s.slots.get i).enterUse
          else s.slots.get i) ∧
        exec (.stageApply q) s =
          .next ({ s with
              slots
              settings := ⟨s.settings.staged, s.settings.staged, Changed.clear, .none⟩ }.answered
            (replyTo 0x0F q .ok [ApplyPending.none.code]))) ∧
    (n.toNat ≤ 1 → s.pixel.stream ≠ .stopped →
      let raised : ApplyPending := if n = 1 ∨ s.settings.apply = .band then .band else .frame
      exec (.stageApply q) s =
        .next ({ s with settings := { s.settings with apply := raised } }.answered (replyTo 0x0F q .ok [raised.code])))

/-- STAGE_CANCEL copies every active value into its staged copy, clears every changed flag, withdraws a pending apply, and
reports the number of flags that were set and the apply-pending state that stood (R133). -/
def Obligations.StageCancelWithdrawsEverything : Prop :=
  ∀ (q : Request) (s : State), q.body = [] → s.takes ⟨0x10, q.tag, q.body⟩ = true →
    exec (.stageCancel q) s =
      .next ({ s with settings := ⟨s.settings.active, s.settings.active, Changed.clear, .none⟩ }.answered
        (replyTo 0x10 q .ok (leBytes 1 (s.settings.changed.toList.count true) ++ [s.settings.apply.code])))

/-- FRAMING_CAPTURE sets capture-owed and says whether a capture was owed (R66). That the indication is always present is the
model's choice (log entry 12). -/
def Obligations.FramingCaptureIsOwed : Prop :=
  ∀ (q : Request) (s : State), q.body = [] → s.takes ⟨0x12, q.tag, q.body⟩ = true →
    exec (.framingCapture q) s =
      .next ({ s with planner := { s.planner with captureOwed := true } }.answered
        (replyTo 0x12 q .ok (encodeFlag s.planner.captureOwed)))

/-- For every staged parameter a clear changed flag means equal copies (R136), and the coast limit never exceeds the lost limit
in either copy (R128). -/
def Obligations.SettingsInvariantKept : Prop :=
  ∀ s t : State, s.SettingsInv → step s = .next t → t.SettingsInv

/-! ### Ramps -/

/-- The four forms of RAMP (R138 to R141) on the ramps that the selector names: CONTINUE and RESTART fill the buffer and
report REPLACED when it held a command, NOW begins a run or sets the value at once, HALT stops the ramp where it stands. A
selector, target or frames total out of range, or a form not coded, is refused and changes nothing. The bytes of a buffered
command and of REPLACED, and that each row takes a form not coded, are the model's choice (log entries 5 and 12). -/
def Obligations.RampRequestsAct : Prop :=
  ∀ (q : Request) (s : State), q.body.length = 6 → s.takes ⟨0x13, q.tag, q.body⟩ = true →
    let selector := fieldAt q.body 0 1
    let form := fieldAt q.body 1 1
    let target := fieldAt q.body 2 2
    let total := fieldAt q.body 4 2
    let acted (f : Ramp → Ramp) : RampUnit :=
      ⟨if selector = 1 then s.ramps.breathing else f s.ramps.breathing,
       if selector = 0 then s.ramps.shading else f s.ramps.shading, s.ramps.fade⟩
    let outcome (f : Ramp → Ramp) (replaced : Ramp → Bool) : Host.Outcome State Fault Refusal :=
      .next ({ s with ramps := acted f }.answered (replyTo 0x13 q .ok
        ((if selector = 1 then [] else encodeFlag (replaced s.ramps.breathing) ++ encodeRamp (f s.ramps.breathing))
          ++ (if selector = 0 then [] else encodeFlag (replaced s.ramps.shading) ++ encodeRamp (f s.ramps.shading))
          ++ leBytes 2 s.ramps.fade ++ leBytes 2 (acted f).kb ++ leBytes 2 (acted f).kv)))
    (selector ≤ 2 → target ≤ 256 → total ≤ 4095 →
      (form = 0 → exec (.rampContinue q) s =
        outcome (fun r => { r with buffered := some ⟨.continue, target, total⟩ }) (fun r => r.buffered.isSome)) ∧
      (form = 1 → exec (.rampRestart q) s =
        outcome (fun r => { r with buffered := some ⟨.restart, target, total⟩ }) (fun r => r.buffered.isSome)) ∧
      (form = 2 → exec (.rampNow q) s =
        outcome (fun r => ⟨if total = 0 then target else r.value, target, r.value, total, 0, decide (0 < total), none⟩)
          (fun _ => false))) ∧
    (selector ≤ 2 → form = 3 → exec (.rampHalt q) s =
      outcome (fun r => { r with running := false, target := r.value, buffered := none }) (fun _ => false)) ∧
    ((2 < selector ∨ 3 < form ∨ (form ≤ 2 ∧ (256 < target ∨ 4095 < total))) →
      ∀ c ∈ [Instr.rampContinue q, .rampRestart q, .rampNow q, .rampHalt q], c.wf = true →
        exec c s = .next (s.answered (replyTo 0x13 q .badValue [])))

/-- A ramp at an announced frame header, and whether it completes a run there: a running ramp steps, to its target exactly at its
last step (R142); a ramp idle after the step starts its buffered command, which jumps when its frames total is 0 (R143, R148);
and every stepped value lies between the start value and the target. -/
def Obligations.RampStepsAtHeader : Prop :=
  ∀ r : Ramp, RampOk r →
    let started (b : Buffered) (value : Nat) : Ramp :=
      let start := if b.form = .continue then value else 0
      ⟨if b.total = 0 then b.target else start, b.target, start, b.total, 0, decide (0 < b.total), none⟩
    (r.running = true → r.done + 1 < r.total →
      let value := interpolate r.start r.target (r.done + 1) r.total
      r.atHeader = ({ r with done := r.done + 1, value }, false) ∧
      min r.start r.target ≤ value ∧ value ≤ max r.start r.target) ∧
    (r.running = true → r.done + 1 = r.total → r.buffered = none →
      r.atHeader = ({ r with done := r.total, value := r.target, running := false }, true)) ∧
    (∀ b, r.running = true → r.done + 1 = r.total → r.buffered = some b →
      r.atHeader = (started b r.target, true)) ∧
    (r.running = false → r.buffered = none → r.atHeader = (r, false)) ∧
    (∀ b, r.running = false → r.buffered = some b → r.atHeader = (started b r.value, decide (b.total = 0)))

/-- RAMP_COMPLETE is the announced header at which a run completes (R148): it does what the header does and the RAMP flag is
then set; where no run would complete, or no header would be announced, it finds nothing to do (the model's reading of the
row: log entry 4). -/
def Obligations.RampCompletesAtHeader : Prop :=
  ∀ (h : FrameHeader) (s : State),
    (s.running = true → s.announces h = true → s.ramps.completes = true →
      exec (.rampComplete h) s = exec (.frameHeader h) s ∧
      ∃ t, exec (.rampComplete h) s = .next t ∧ t.notices.ramp = true) ∧
    ((s.running = false ∨ s.announces h = false ∨ s.ramps.completes = false) → exec (.rampComplete h) s = .next s)

/-- Every ramp value and target and the fade factor stay within 0 to 256 (R147), and a ramp stays within R137: frames done no
more than the total, and an idle ramp at its target. -/
def Obligations.RampInvariantKept : Prop :=
  ∀ s t : State, s.RampInv → step s = .next t → t.RampInv

/-! ### Watches and faults -/

/-- WATCH_SET (R151) replaces a definition, returns the baseline to UNKNOWN, withdraws an owed notice and leaves the tripped
flag; WATCH_CLEAR (R154) clears the tripped flags of the watches it names and nothing else. -/
def Obligations.WatchRequestsAct : Prop :=
  (∀ (q : Request) (s : State), q.body.length = 10 → s.takes ⟨0x14, q.tag, q.body⟩ = true →
    let selection := fieldAt q.body 1 2
    let expected := fieldAt q.body 3 2
    let lo := fieldAt q.body 5 2
    let hi := fieldAt q.body 7 2
    let level := fieldAt q.body 9 1
    let bad := 8192 ≤ selection ∨ 8192 ≤ expected ∨ (∃ n, expected.testBit n = true ∧ selection.testBit n = false) ∨
      hi < lo ∨ 3 < level
    ((8 ≤ fieldAt q.body 0 1 ∨ bad) → exec (.watchSet q) s = .next (s.answered (replyTo 0x14 q .badValue []))) ∧
    ∀ i : Fin 8, fieldAt q.body 0 1 = i.val → ¬ bad →
      let w : Watch :=
        ⟨BitVec.ofNat 13 selection, BitVec.ofNat 13 expected, lo, hi, level, .unknown, (s.watches.get i).tripped, false⟩
      exec (.watchSet q) s =
        .next ({ s with watches := s.watches.set i w }.answered (replyTo 0x14 q .ok (encodeWatch w)))) ∧
  (∀ (q : Request) (named : Byte) (s : State), q.body = [named] → s.takes ⟨0x15, q.tag, q.body⟩ = true →
    ∃ (watches : Eight Watch) (tripped : Byte),
      (∀ i : Fin 8, watches.get i =
        if named.getLsbD i then { s.watches.get i with tripped := false } else s.watches.get i) ∧
      (∀ i : Fin 8, tripped.getLsbD i = (watches.get i).tripped) ∧
      exec (.watchClear q) s = .next ({ s with watches }.answered (replyTo 0x15 q .ok [tripped])))

/-- Every band plan is offered to the watches (R58 step 8), and each watch with a selection then changes by the table of R153:
it trips exactly when it passes from CONFORM to not conforming, and owes a notice when its level is 1 to 3. -/
def Obligations.WatchTripsOnLosingConformity : Prop :=
  (∀ (s : State) (p : Plan),
    { s.offerToWatches p with watches := s.watches } = s ∧
    ∀ i : Fin 8,
      let w := s.watches.get i
      let after := (s.offerToWatches p).watches.get i
      (w.selection = 0 → after = w) ∧
      (w.selection ≠ 0 →
        (ConformsTo w p → after = { w with baseline := .conform }) ∧
        (¬ ConformsTo w p → w.baseline = .conform →
          after = { w with baseline := .nonconform, tripped := true, owed := w.owed || decide (1 ≤ w.level) }) ∧
        (¬ ConformsTo w p → w.baseline ≠ .conform → after = { w with baseline := .nonconform }))) ∧
  (∀ (s : State) (c : StreamConfig) (h : FrameHeader) (b : Nat), ∃ (u : State) (p : Plan),
    s.planBand c h b = u.offerToWatches p ∧ u.planner.latest = some p ∧ p.band = b ∧ u.watches = s.watches)

/-- FAULT_READ reports the record as it stands, and with the clear indication yes then empties it; the FAULT pending flag stays
(R171). -/
def Obligations.FaultReadReportsAndClears : Prop :=
  ∀ (q : Request) (n : Byte) (s : State), q.body = [n] → s.takes ⟨0x17, q.tag, q.body⟩ = true →
    (n = 0 → exec (.faultRead q) s = .next (s.answered (replyTo 0x17 q .ok (encodeFaults s.faults)))) ∧
    (n = 1 → exec (.faultRead q) s =
      .next ({ s with faults := none }.answered (replyTo 0x17 q .ok (encodeFaults s.faults)))) ∧
    (2 ≤ n.toNat → exec (.faultRead q) s = .next (s.answered (replyTo 0x17 q .badValue [])))

/-- Once the fault record holds a fault it keeps that fault's kind, frame number and row until FAULT_READ with clear or a
device-level reset, and its following count never exceeds 255 (R170); and every step, from an empty record too, keeps the count
within 255. That the record still stands when a WARM or COLD RESTART is taken or the reset line is asserted, and is emptied at
the end of that reset, is the model's choice (log entry 7). -/
def Obligations.FirstFaultIsKept : Prop :=
  (∀ (c : Instr) (s t : State) (e : FaultEntry), s.FaultInv → s.faults = some e → exec c s = .next t →
    (∀ q, c = .faultRead q → q.body ≠ [1]) →
    c ≠ .resetEnd → c ≠ .resetLineRelease → c ≠ .powerOn → c ≠ .powerLoss →
    ∃ n, t.faults = some { e with following := n } ∧ e.following ≤ n ∧ n ≤ 255) ∧
  ∀ s t : State, s.FaultInv → step s = .next t → t.FaultInv

/-! ### The stream -/

/-- STREAM_CONFIGURE (R103, R104, R54): refused with BAD_STATE outside STOPPED, then with BAD_VALUE out of range, then with
CAPACITY when the required depth exceeds the capacity; otherwise the configuration with its derived figures replaces any
before it. -/
def Obligations.StreamConfigureDerivesTheDepth : Prop :=
  ∀ (q : Request) (s : State), q.body.length = 19 → s.takes ⟨0x0A, q.tag, q.body⟩ = true →
    let w := fieldAt q.body 0 2
    let h := fieldAt q.body 2 2
    let b := fieldAt q.body 4 2
    let sMax := fieldAt q.body 6 4
    let form := fieldAt q.body 10 1
    let cx2 := if form = 1 then w - 1 else fieldAt q.body 11 2
    let cy2 := if form = 1 then h - 1 else fieldAt q.body 13 2
    let ax := fieldAt q.body 15 2
    let ay := fieldAt q.body 17 2
    let good := Within 64 4096 w ∧ w % 2 = 0 ∧ Within 64 3072 h ∧ Within 4 (h / 8) b ∧ Within 65536 81920 sMax ∧
      form ≤ 1 ∧ cx2 ≤ 2 * (w - 1) ∧ cy2 ≤ 2 * (h - 1) ∧ Within 1 8192 ax ∧ Within 1 8192 ay
    let lag := cy2 * (sMax - 65536) / (2 * sMax) + 2
    let lead := (2 * (h - 1) - cy2) * (sMax - 65536) / (2 * sMax)
    let depth := lag + lead + 2
    let capacity := min 512 (1048576 / w)
    let hb := (h + b - 1) / b
    let bandCount := (h + hb - 1) / hb
    let figures := leBytes 2 lag ++ leBytes 2 lead ++ leBytes 2 depth ++ leBytes 2 capacity
    (s.pixel.stream ≠ .stopped →
      exec (.streamConfigure q) s = .next (s.answered (replyTo 0x0A q .badState []))) ∧
    (s.pixel.stream = .stopped → ¬ good →
      exec (.streamConfigure q) s = .next (s.answered (replyTo 0x0A q .badValue []))) ∧
    (s.pixel.stream = .stopped → good → capacity < depth →
      exec (.streamConfigure q) s = .next (s.answered (replyTo 0x0A q .capacity figures))) ∧
    (s.pixel.stream = .stopped → good → depth ≤ capacity →
      exec (.streamConfigure q) s =
        .next ({ s with
          pixel := { s.pixel with
            config := some ⟨w, h, b, sMax, cx2, cy2, ax, ay, hb, bandCount, lag, lead, depth, capacity⟩
            lineStore := [] } }.answered
          (replyTo 0x0A q .ok (figures ++ leBytes 2 hb ++ leBytes 2 bandCount))))

/-- STREAM_START moves a STOPPED and configured stream to WAITING and is refused without a configuration (R105); STREAM_STOP
moves WAITING to STOPPED and IN_FRAME to STOPPING and reports the resulting state (R106). That the reply to STREAM_STOP
always carries a state is the model's choice (log entry 12). -/
def Obligations.StreamStartsAndStops : Prop :=
  (∀ (q : Request) (s : State), q.body = [] → s.takes ⟨0x0B, q.tag, q.body⟩ = true →
    (s.pixel.stream = .stopped → s.pixel.config = none →
      exec (.streamStart q) s = .next (s.answered (replyTo 0x0B q .badState []))) ∧
    (s.pixel.stream = .stopped → s.pixel.config ≠ none →
      exec (.streamStart q) s =
        .next ({ s with pixel := { s.pixel with stream := .waiting, skip := false, orphan := false } }.answered
          (replyTo 0x0B q .ok []))) ∧
    (s.pixel.stream ≠ .stopped → exec (.streamStart q) s = .next (s.answered (replyTo 0x0B q .ok [])))) ∧
  (∀ (q : Request) (s : State), q.body = [] → s.takes ⟨0x0C, q.tag, q.body⟩ = true →
    (s.pixel.stream = .waiting →
      exec (.streamStop q) s =
        .next ({ s with
          pixel := { s.pixel with stream := .stopped, skip := false, orphan := false, lineStore := [] } }.answered
          (replyTo 0x0C q .ok [0]))) ∧
    (s.pixel.stream = .inFrame →
      exec (.streamStop q) s =
        .next ({ s with pixel := { s.pixel with stream := .stopping } }.answered (replyTo 0x0C q .ok [3]))) ∧
    (s.pixel.stream = .stopped ∨ s.pixel.stream = .stopping →
      exec (.streamStop q) s = .next (s.answered (replyTo 0x0C q .ok [s.pixel.stream.code]))))

/-- A header (R108, R116, R165): in WAITING a matching one starts a frame, after which a pending FRAME apply takes effect and
then the ramps and the fade factor step (R131, R132, R142 to R145); a mismatched one raises FORMAT and sets the skip flag; in
STOPPED it is discarded; in a frame it first does what an end does. -/
def Obligations.HeaderStartsFrame : Prop :=
  ∀ (h : FrameHeader) (s : State), s.running = true →
    (∀ c, s.pixel.stream = .waiting → s.pixel.config = some c → h.width = c.width → h.height = c.height →
      let u := if s.settings.apply = .frame then s.applyNow else s
      let step := (256 + u.settings.active.fadeFrames - 1) / u.settings.active.fadeFrames
      exec (.frameHeader h) s =
        .next { u with
          pixel := { s.pixel with
            stream := .inFrame, skip := false, orphan := false, lastFrame := some h.frameNumber.toNat
            frame := some ⟨h, false, FrameReport.initial h.frameNumber.toNat⟩ }
          ramps := ⟨s.ramps.breathing.atHeader.1, s.ramps.shading.atHeader.1,
            if u.settings.active.lossAction = .fade ∧ lossSeen s.planner.latest = true then s.ramps.fade - step
            else min 256 (s.ramps.fade + step)⟩
          notices := { s.notices with
            ramp := s.notices.ramp || (s.ramps.breathing.atHeader.2 || s.ramps.shading.atHeader.2) } }) ∧
    (∀ c, s.pixel.stream = .waiting → s.pixel.config = some c → (h.width ≠ c.width ∨ h.height ≠ c.height) →
      exec (.frameHeader h) s =
        .next ({ s with pixel := { s.pixel with skip := true, orphan := false } }.faulted .format
          (some h.frameNumber.toNat) none)) ∧
    (s.pixel.stream = .stopped → exec (.frameHeader h) s = .next s) ∧
    (s.pixel.stream = .inFrame ∨ s.pixel.stream = .stopping → s.PixelInv →
      ∃ t, exec .frameEnd s = .next t ∧ exec (.frameHeader h) s = exec (.frameHeader h) t)

/-- An accepted row (R109, R111, R118 to R121): it is counted, fitted to W pixels and stored; the row that is D behind it is
emitted, after the output header when that has not left, its pixels resampled and shaded from the stored rows at the scale and
the knots of its band's plan, and its saturated samples are counted; the store then holds exactly the rows of R111; and a band is planned exactly at
its first row (R56), by the steps of R58 on the state in which the row is counted and stored and before a row is emitted; the
emission changes nothing of what the plan leaves but the frame, the plan queue and the port. So any other row leaves every block alone but the pixel path, the plan queue and the port. -/
def Obligations.AcceptedRowIsStoredAndEmits : Prop :=
  ∀ (row : Row) (s : State) (c : StreamConfig) (f : Frame), s.PixelInv → s.running = true →
    s.pixel.config = some c → s.pixel.frame = some f → f.report.rowsReceived < c.height →
    let r := f.report.rowsReceived
    ∃ (t : State) (g : Frame), exec (.inputRow row) s = .next t ∧ t.pixel.frame = some g ∧
      g.header = f.header ∧ g.report.rowsReceived = r + 1 ∧ g.report.rowsEmitted = r + 1 - c.lag ∧
      g.report.bandsPlanned = f.report.bandsPlanned + (if r % c.hb = 0 then 1 else 0) ∧
      t.pixel.lineStore.map Prod.fst = List.range' (r - c.lag - c.lead - 1) (r + 1 - (r - c.lag - c.lead - 1)) ∧
      (r, row.take c.width ++ List.replicate (c.width - row.length) (row.getLastD ⟨0, 0, 0⟩)) ∈ t.pixel.lineStore ∧
      (∀ e ∈ t.pixel.lineStore, e.1 ≠ r → e ∈ s.pixel.lineStore) ∧
      (r < c.lag → t.outputs = s.outputs ∧ g.report.saturation = f.report.saturation) ∧
      (c.lag ≤ r →
        let y := r - c.lag
        let plan := rowPlan c s.planner.queue y
        let out := outputPixels c plan.1 plan.2 t.pixel.lineStore y
        out.length = c.width ∧
        t.outputs = { s.outputs with
          video := s.outputs.video ++ (if f.headerSent then [] else [.header f.header]) ++ [.row (out.map Prod.fst)] } ∧
        (f.report.saturation ≤ 65535 →
          g.report.saturation = min 65535 (f.report.saturation + (out.map Prod.snd).sum))) ∧
      { t.pixel with lineStore := s.pixel.lineStore, frame := s.pixel.frame } = s.pixel ∧
      { t with
        tracks := s.tracks, slots := s.slots, settings := s.settings, planner := s.planner, pixel := s.pixel
        watches := s.watches, notices := s.notices, outputs := s.outputs } = s ∧
      (let stored : State :=
          { s with
            pixel := { s.pixel with
              lineStore := t.pixel.lineStore
              frame := some { f with report := { f.report with rowsReceived := r + 1 } } } }
        let planned := if r % c.hb = 0 then stored.planBand c f.header (r / c.hb) else stored
        { t with pixel := planned.pixel, planner := planned.planner, outputs := planned.outputs } = planned ∧
        { t.planner with queue := planned.planner.queue } = planned.planner ∧
        t.planner.queue = (if r < c.lag then planned.planner.queue
          else planned.planner.queue.filter fun p => min c.height ((p.band + 1) * c.hb) ≠ r - c.lag + 1) ∧
        ∃ h, planned.pixel.frame = some h ∧
          { h.report with rowsEmitted := g.report.rowsEmitted, saturation := g.report.saturation } = g.report) ∧
      (r % c.hb = 0 → ∃ p, t.planner.latest = some p ∧ p.band = r / c.hb ∧ p.frameNumber = f.header.frameNumber.toNat) ∧
      (r % c.hb ≠ 0 →
        { t with pixel := s.pixel, planner := s.planner, outputs := s.outputs } = s ∧
        { t.planner with queue := s.planner.queue } = s.planner ∧ ∀ p ∈ t.planner.queue, p ∈ s.planner.queue)

/-- Rows that no frame accepts (R115, R117, R166, R168): discarded in STOPPED and in a run already known; the first of a run in
WAITING raises HEADER_MISSING; the first after H rows sets LONG and raises INPUT_LONG. Without power, and while a reset is
under way, every packet is discarded (R176). -/
def Obligations.UnacceptedRowsAreDiscarded : Prop :=
  (∀ (row : Row) (s : State), s.running = true →
    (s.pixel.stream = .stopped → exec (.inputRow row) s = .next s) ∧
    (s.pixel.stream = .waiting → s.pixel.skip = true ∨ s.pixel.orphan = true → exec (.inputRow row) s = .next s) ∧
    (s.pixel.stream = .waiting → s.pixel.skip = false → s.pixel.orphan = false →
      exec (.inputRow row) s =
        .next ({ s with pixel := { s.pixel with orphan := true } }.faulted .headerMissing s.pixel.lastFrame none)) ∧
    (∀ (c : StreamConfig) (f : Frame), s.pixel.stream = .inFrame ∨ s.pixel.stream = .stopping →
      s.pixel.config = some c → s.pixel.frame = some f → f.report.rowsReceived = c.height →
      (f.report.long = true → exec (.inputRow row) s = .next s) ∧
      (f.report.long = false →
        exec (.inputRow row) s =
          .next ({ s with
            pixel := { s.pixel with frame := some { f with report := { f.report with long := true } } } }.faulted
            .inputLong (some f.report.frameNumber) (some c.height))))) ∧
  (∀ (h : FrameHeader) (row : Row) (s : State), s.running = false →
    exec (.frameHeader h) s = .next s ∧ exec (.inputRow row) s = .next s ∧ exec .frameEnd s = .next s)

/-- A frame end (R113, R114, R118 to R120, R167): the frame in progress leaves whole, its header if that has not left, every
row not yet emitted up to H, and one trailer, TRUNCATED and with an INPUT_SHORT fault when fewer than H rows arrived. The bands
not yet planned are planned first, and the rows that did not arrive are copies of the last that did, or of zeros when none did;
every row is resampled and shaded from the rows then held, at the scale and the knots of its band's plan, and its saturated
samples are counted. The store and the plan queue are then empty and the stream is WAITING, or STOPPED with the STREAM flag set.
An end after all H rows leaves every block alone but the pixel path, the plan queue, the notices and the port. In WAITING it
clears the skip and orphan flags, and in STOPPED it is discarded. -/
def Obligations.FrameEndClosesFrame : Prop :=
  (∀ (s : State) (c : StreamConfig) (f : Frame), s.PixelInv → s.QueueInv → s.running = true →
    s.pixel.config = some c → s.pixel.frame = some f →
    let received := f.report.rowsReceived
    let emitted := f.report.rowsEmitted
    let short := decide (received < c.height)
    let opened : State :=
      if short then
        { s.faulted .inputShort (some f.report.frameNumber) (some received) with
          pixel := { s.pixel with frame := some { f with report := { f.report with truncated := true } } } }
      else s
    let planned : State := (c.unplannedBands received).foldl (fun u b => u.planBand c f.header b) opened
    let arrived (k : Nat) : Row :=
      if k < received then heldRow s.pixel.lineStore k
      else if received = 0 then List.replicate c.width ⟨0, 0, 0⟩
      else heldRow s.pixel.lineStore (received - 1)
    let held (y : Nat) : List (Nat × Row) :=
      let lo := if y + c.lag < c.height then y - c.lead - 1 else y - c.lead - 2
      (List.range' lo (min c.height (y + c.lag + 1) - lo)).map fun k => (k, arrived k)
    let out (y : Nat) : List (Pixel × Nat) :=
      let plan := rowPlan c planned.planner.queue y
      outputPixels c plan.1 plan.2 (held y) y
    let remaining := (List.range' emitted (c.height - emitted)).map out
    ∃ (t : State) (rows : List Row) (report : FrameReport), exec .frameEnd s = .next t ∧
      t.outputs.video = s.outputs.video ++ (if f.headerSent then [] else [.header f.header]) ++ rows.map .row
        ++ [.trailer report] ∧
      rows = remaining.map (fun row => row.map Prod.fst) ∧
      (f.report.saturation ≤ 65535 →
        report.saturation = min 65535 (f.report.saturation + (remaining.map fun row => (row.map Prod.snd).sum).sum)) ∧
      (∃ g, planned.pixel.frame = some g ∧
        { g.report with rowsEmitted := c.height, saturation := report.saturation } = report) ∧
      { t with pixel := planned.pixel, planner := planned.planner, notices := planned.notices, outputs := planned.outputs } =
        planned ∧
      { t.planner with queue := planned.planner.queue } = planned.planner ∧
      rows.length = c.height - f.report.rowsEmitted ∧ (∀ row ∈ rows, row.length = c.width) ∧
      report.frameNumber = f.report.frameNumber ∧ report.rowsReceived = f.report.rowsReceived ∧
      report.rowsEmitted = c.height ∧ report.bandsPlanned = c.bandCount ∧
      report.truncated = short ∧ report.long = f.report.long ∧ report.aborted = false ∧
      t.faults = (if short then (s.faulted .inputShort (some f.report.frameNumber)
        (some f.report.rowsReceived)).faults else s.faults) ∧
      t.pixel = { s.pixel with
        stream := if s.pixel.stream = .stopping then .stopped else .waiting
        lineStore := [], frame := none
        skip := s.pixel.skip && decide (s.pixel.stream ≠ .stopping)
        orphan := s.pixel.orphan && decide (s.pixel.stream ≠ .stopping) } ∧
      t.planner.queue = [] ∧ t.outputs.link = s.outputs.link ∧
      t.notices.stream = (s.notices.stream || decide (s.pixel.stream = .stopping)) ∧
      t.notices.framesCount = countUp s.notices.framesCount ∧
      (s.control.subscriptions.getLsbD 7 = true → t.notices.retained = some report ∧ t.notices.summary = true) ∧
      (s.control.subscriptions.getLsbD 7 = false → t.notices.retained = s.notices.retained ∧
        t.notices.summary = s.notices.summary) ∧
      t.notices.restarted = s.notices.restarted ∧ t.notices.ramp = s.notices.ramp ∧
      t.notices.restartTag = s.notices.restartTag ∧
      { t with
        tracks := s.tracks, slots := s.slots, settings := s.settings, planner := s.planner, pixel := s.pixel
        watches := s.watches, notices := s.notices, faults := s.faults, outputs := s.outputs } = s ∧
      (short = false →
        { t with pixel := s.pixel, planner := s.planner, notices := s.notices, outputs := s.outputs } = s ∧
        { t.planner with queue := s.planner.queue } = s.planner ∧ t.notices.fault = s.notices.fault ∧
        t.notices.source = s.notices.source ∧ t.notices.framing = s.notices.framing)) ∧
  (∀ s : State, s.running = true →
    (s.pixel.stream = .waiting →
      exec .frameEnd s = .next { s with pixel := { s.pixel with skip := false, orphan := false } }) ∧
    (s.pixel.stream = .stopped → exec .frameEnd s = .next s))

/-- The pixel path stays consistent (R102, R109, R111), and so the line store never holds more rows than its capacity
(R112). -/
def Obligations.PixelInvariantKept : Prop :=
  ∀ s t : State, s.PixelInv → step s = .next t →
    t.PixelInv ∧ ∀ c ∈ t.pixel.config, t.pixel.lineStore.length ≤ c.capacity

/-- The plan queue holds exactly the plans of the bands planned and not wholly emitted, lowest first and each once, and is empty
with no frame (R63, R64). -/
def Obligations.QueueInvariantKept : Prop :=
  ∀ s t : State, s.PixelInv → s.QueueInv → step s = .next t → t.QueueInv

/-- Every band plan has its effective scale between 65536 and the maximum scale (R83) and its 51 effective knots within 2048 to
65535 (R93), and at strength 0 it is at unity (R82, R92). -/
def Obligations.PlanInvariantKept : Prop :=
  ∀ s t : State, s.ContentInv → s.RampInv → s.PixelInv → s.QueueInv → s.PlanInv → step s = .next t → t.PlanInv

/-- For a band whose effective strengths are both 0, every output row whose source row arrived is that row (R122): where it is
emitted at the arrival of a row, and where it is emitted at a close, by an end or by a header. -/
def Obligations.ZeroStrengthIsTheIdentity : Prop :=
  ∀ (s : State) (c : StreamConfig) (f : Frame) (p : Plan), s.PixelInv → s.QueueInv → s.PlanInv → s.running = true →
    s.pixel.config = some c → s.pixel.frame = some f → p ∈ s.planner.queue → p.kb = 0 → p.kv = 0 →
    (∀ row : Row, c.lag ≤ f.report.rowsReceived → f.report.rowsReceived < c.height →
      p.band = (f.report.rowsReceived - c.lag) / c.hb →
      ∃ t, exec (.inputRow row) s = .next t ∧
        t.outputs.video.getLast? = some (.row (heldRow s.pixel.lineStore (f.report.rowsReceived - c.lag)))) ∧
    (∃ (rows : List Row) (report : FrameReport),
      s.closeFrame.outputs.video = s.outputs.video ++ (if f.headerSent then [] else [.header f.header])
        ++ rows.map .row ++ [.trailer report] ∧
      ∀ y, f.report.rowsEmitted ≤ y → y < f.report.rowsReceived → p.band = y / c.hb →
        rows[y - f.report.rowsEmitted]? = some (heldRow s.pixel.lineStore y))

/-- The output port stays well formed (R121, R123): every output frame whose header is emitted is ended by exactly one trailer
and carries exactly H rows unless the trailer is marked ABORTED. The loss of power during a frame is the exception. -/
def Obligations.OutputInvariantKept : Prop :=
  ∀ s t : State, s.PixelInv → s.VideoInv → (s.pending.head? = some .powerLoss → s.pixel.frame = none) →
    step s = .next t → t.VideoInv

/-! ### The lens tracker and the band planner -/

/-- Every axis track stays within R38: a lens code is held exactly outside NONE, and a source is in use exactly outside LOST and
NONE; so every value that an evaluation finds is a lens code (R41, R42). -/
def Obligations.TrackInvariantKept : Prop :=
  ∀ s t : State, s.HistoryInv → s.TrackInv → step s = .next t → t.TrackInv

/-- The source in use after an evaluation is the first of the axis's active order that is not LOST, and none when every one is
LOST (R45, R40); the track's fields as they stood become its previous ones (R46, R47), and with no source in use the held value
stands, in LOST, or is absent, in NONE (R47). A source in use gives the axis its state and value from its samples that carry
the axis (R30): FRESH up to its newest, the code at a sample's time, interpolated between two, and the oldest's code before it
(R41); COASTING up to the coast limit after its newest, extrapolated from the newest two and clamped to the lens codes, or
the one code (R42); then HOLDING, the newest's code (R43). The evaluation writes the tracks, sets the SOURCE flag when it changes
the source in use of an axis (R50), and does nothing else. -/
def Obligations.FirstLiveSourceIsUsed : Prop :=
  (∀ (s : State) (t : Nat),
    { s.evaluate t with tracks := s.tracks, notices := s.notices } = s ∧
    ∃ source, (s.evaluate t).notices = { s.notices with source } ∧
      (source = true ↔ s.notices.source = true ∨
        ∃ a, ((s.evaluate t).tracks.get a).source ≠ (s.tracks.get a).source)) ∧
  ∀ (s : State) (t : Nat) (a : Axis), s.SettingsInv →
    let x := (s.evaluate t).tracks.get a
    (∀ k, x.source = some k ↔
      ∃ before after, s.settings.active.order a = before ++ k :: after ∧ ¬ s.SourceLost a t k ∧
        ∀ j ∈ before, s.SourceLost a t j) ∧
    (x.source = none ↔ ∀ k ∈ s.settings.active.order a, s.SourceLost a t k) ∧
    (x.source = none → x.held = (s.tracks.get a).held ∧
      x.state = if (s.tracks.get a).held = none then .none else .lost) ∧
    x.prevSource = (s.tracks.get a).source ∧ x.prevState = (s.tracks.get a).state ∧
    (s.HistoryInv → ∀ k, x.source = some k →
      let samples := carrying a (s.intake.histories.get k)
      (∀ time code, (time, code) ∈ samples ↔
        ∃ y ∈ s.intake.histories.get k, y.time = time ∧ y.codes.get a = some code) ∧
      ∃ tn vn : Nat, samples.getLast? = some (tn, vn) ∧
        (t ≤ tn →
          x.state = .fresh ∧
          (∀ ta va : Nat, samples.head? = some (ta, va) → t ≤ ta → x.held = some va) ∧
          (∀ v, (t, v) ∈ samples → x.held = some v) ∧
          (∀ i ta va tb vb : Nat, samples[i]? = some (ta, va) → samples[i + 1]? = some (tb, vb) → ta < t → t < tb →
            ∃ n : Nat, x.held = some n ∧
              (n : Int) = va + (2 * (((vb : Int) - va) * ((t : Int) - ta)) + (tb - ta)) / (2 * ((tb : Int) - ta)))) ∧
        (tn < t → t ≤ tn + s.settings.active.coastLimit →
          x.state = .coasting ∧
          (samples = [(tn, vn)] → x.held = some vn) ∧
          (∀ (before : List (Nat × Nat)) (t0 v0 : Nat), samples = before ++ [(t0, v0), (tn, vn)] →
            ∃ n : Nat, x.held = some n ∧
              (n : Int) = max 0 (min 65535
                (vn + (2 * (((vn : Int) - v0) * ((t : Int) - tn)) + (tn - t0)) / (2 * ((tn : Int) - t0)))))) ∧
        (tn + s.settings.active.coastLimit < t → x.state = .holding ∧ x.held = some vn))

/-- A band plan runs the steps of R58: a pending BAND apply takes effect (R131); the axes are evaluated at the band time, the
readout time of the middle of the band's own rows with a row period of 0 taken as 1 (R55, R108); the plan is made; it enters the
plan queue as its last, becomes the latest plan and adds to the frame report (R63, R65, R173); and it is offered to the watches.
In the making, with no slot IN_USE, or a used axis in NONE, the plan is neutral and takes no capture (R60); otherwise a capture
that is owed writes the plan's magnification into REF_MAG, and under CAPTURED the band is then at unity scale (R67). The scale
is clamped to 65536 and s_max (R80) and, as the knots are, drawn by its strength (R82, R92). -/
def Obligations.CaptureIsTakenByACorrectedPlan : Prop :=
  (∀ (s : State) (c : StreamConfig) (h : FrameHeader) (b : Nat),
    let first := b * c.hb
    let rows := min c.height (first + c.hb) - first
    let period := if h.rowPeriod = 0 then 1 else h.rowPeriod.toNat
    let time := h.t0.toNat + (2 * first + rows - 1) * period / 2000
    let applied := if s.settings.apply = .band then s.applyNow else s
    let made := (applied.evaluate time).makePlan ⟨h.frameNumber.toNat, b, time⟩ c.sMax
    s.planBand c h b =
      State.offerToWatches
        { made.2 with
          planner := { made.2.planner with queue := made.2.planner.queue ++ [made.1], latest := some made.1 }
          pixel := { made.2.pixel with
            frame := made.2.pixel.frame.map fun f => { f with report := f.report.addPlan made.1 } } }
        made.1) ∧
  (∀ (r : FrameReport) (p : Plan), r.addPlan p =
    { r with
      bandsPlanned := r.bandsPlanned + 1
      slot := p.slot
      firstScale := if p.band = 0 then some p.sEff else r.firstScale
      leastScale := some (min (r.leastScale.getD p.sEff) p.sEff)
      greatestScale := some (max (r.greatestScale.getD p.sEff) p.sEff)
      kb := some p.kb
      kv := some p.kv
      axisStates := ⟨some p.axes.focus.state, some p.axes.zoom.state, some p.axes.iris.state⟩
      clampedLow := r.clampedLow || p.conditions.scaleClampedLow
      clampedHigh := r.clampedHigh || p.conditions.scaleClampedHigh
      outOfRange :=
        ⟨r.outOfRange.focus || (p.breathing.isSome && !p.conditions.focusInRange),
         r.outOfRange.zoom || (p.breathing.isSome && !p.conditions.zoomInRange),
         r.outOfRange.iris || (p.breathing.isSome && !p.conditions.irisInRange)⟩
      focusFresh := (decide (p.band = 0) || r.focusFresh) && p.conditions.focusFresh }) ∧
  ∀ (s : State) (d : PlanId) (sMax : Nat), s.ContentInv → 65536 ≤ sMax →
    let made := s.makePlan d sMax
    let live (x : AxisState) : Bool := decide (x ≠ .lost ∧ x ≠ .none)
    let states : PerAxis AxisState := ⟨s.tracks.focus.state, s.tracks.zoom.state, s.tracks.iris.state⟩
    let full := decide (s.ramps.kb = 256 ∧ s.ramps.kv = 256)
    (made.1.frameNumber = d.frameNumber ∧ made.1.band = d.band ∧ made.1.time = d.time ∧ made.1.kb = s.ramps.kb ∧
      made.1.kv = s.ramps.kv ∧
      ∀ a, (made.1.axes.get a).source = (s.tracks.get a).source ∧ (made.1.axes.get a).state = (s.tracks.get a).state ∧
        (made.1.axes.get a).value = (s.tracks.get a).held) ∧
    ((inUse s.slots = none ∨ ∃ i p, inUse s.slots = some (i, p) ∧ usedAxesKnown p.used s.tracks = false) →
      made.2 = s ∧ made.1.s = 65536 ∧ made.1.sEff = 65536 ∧ made.1.knots = List.replicate 51 4096 ∧
      made.1.breathing = none ∧ made.1.axes.focus.grid = none ∧ made.1.axes.zoom.grid = none ∧
      made.1.axes.iris.grid = none ∧ made.1.slot = (inUse s.slots).map Prod.fst ∧
      made.1.conditions =
        ⟨decide (states.focus = .fresh), live states.focus, live states.zoom, live states.iris, false, false, false, false,
         false, (inUse s.slots).isSome, (inUse s.slots).isNone && decide (states.focus ≠ .none), full⟩) ∧
    (∀ i p, inUse s.slots = some (i, p) → usedAxesKnown p.used s.tracks = true →
      let grid := gridPositions p (axisValues s.tracks)
      ∃ b : Breathing, made.1.breathing = some b ∧ made.1.slot = some i ∧ made.1.used = p.used ∧
        Within 16384 65535 b.m ∧ b.m = p.magnification grid ∧
        b.mRef = p.reference grid.zoom s.settings.active.refMode
          (if s.planner.captureOwed then b.m else s.settings.active.refMag) ∧
        b.sRaw = (2 * (b.mRef * 65536) + b.m) / (2 * b.m) ∧
        made.1.s = max 65536 (min sMax b.sRaw) ∧
        made.1.sEff = 65536 + (2 * ((made.1.s - 65536) * s.ramps.kb) + 256) / 512 ∧
        made.1.knots = (p.blendedKnots grid).map (fun (g : Nat) =>
          ((4096 : Int) + (2 * (((g : Int) - 4096) * s.ramps.kv) + 256) / 512).toNat) ∧
        made.1.axes.focus.grid = some grid.focus ∧ made.1.axes.zoom.grid = some grid.zoom ∧
        made.1.axes.iris.grid = some grid.iris ∧
        made.1.conditions =
          ⟨decide (states.focus = .fresh), live states.focus, live states.zoom, live states.iris, grid.focus.inRange,
           grid.zoom.inRange, grid.iris.inRange, decide (b.sRaw < 65536), decide (sMax < b.sRaw), true, true, full⟩ ∧
        (s.planner.captureOwed = false → made.2 = s) ∧
        (s.planner.captureOwed = true →
          made.2 = { s with
            planner := { s.planner with captureOwed := false }
            notices := { s.notices with framing := true }
            settings := { s.settings with
              active := { s.settings.active with refMag := b.m }
              staged := if s.settings.changed.refMag then s.settings.staged
                else { s.settings.staged with refMag := b.m } } } ∧
          (s.settings.active.refMode = .captured → b.mRef = b.m ∧ b.sRaw = 65536 ∧ made.1.s = 65536)))

/-! ### Restarts, resets and power -/

/-- A STREAM restart (R175): a frame in progress is aborted with its trailer and its report handed over, the stream is
STOPPED with its store and plan queue empty, the watch baselines return to UNKNOWN, and everything else is kept. A level not
coded is refused and changes nothing. That each of the three rows takes a level not coded is the model's choice (log entry
5). -/
def Obligations.StreamRestartAbortsTheFrame : Prop :=
  ∀ (q : Request) (n : Byte) (s : State), q.body = [n] → s.takes ⟨0x04, q.tag, q.body⟩ = true →
    (n = 0 →
      exec (.restartStream q) s =
        .next ({ s with
          pixel := { s.pixel with stream := .stopped, lineStore := [], frame := none, skip := false, orphan := false }
          planner := { s.planner with queue := [] }
          watches := s.watches.map fun (w : Watch) => { w with baseline := .unknown }
          outputs := { s.outputs with video := s.outputs.video ++ abortPackets s.pixel.frame }
          notices :=
            match s.pixel.frame with
            | some f =>
              { s.notices with
                framesCount := countUp s.notices.framesCount
                retained := if s.control.subscriptions.getLsbD 7 then some { f.report with aborted := true }
                  else s.notices.retained
                summary := s.notices.summary || s.control.subscriptions.getLsbD 7 }
            | none => s.notices }.answered
          (replyTo 0x04 q .ok ([s.pixel.stream.code] ++ encodeFlag s.pixel.frame.isSome ++
            match s.pixel.frame with
            | some f => leBytes 4 f.report.frameNumber ++ leBytes 2 f.report.rowsEmitted
            | none => [])))) ∧
    (3 ≤ n.toNat → ∀ c ∈ [Instr.restartStream q, .restartWarm q, .restartCold q],
      exec c s = .next (s.answered (replyTo 0x04 q .badValue [])))

/-- A device-level reset begins (R124, R176, R177, R194) when a WARM or COLD RESTART is taken or the reset line is asserted:
a frame in progress is aborted with its trailer, ready falls, the buffers, the receivers and the counts of the links are
emptied, a sending ends part way, and the restart tag is held. That the other blocks keep their values until the reset ends
is the model's choice (log entry 7). -/
def Obligations.DeviceResetBegins : Prop :=
  let begun (s : State) (run : ResetRun) : State :=
    { s with
      resetRun := some run
      control := ⟨.hunting, [], false, [], none, 0, 0, s.control.subscriptions⟩
      lens := ⟨.hunting, 0⟩
      pixel := { s.pixel with stream := .stopped, lineStore := [], frame := none, skip := false, orphan := false }
      planner := { s.planner with queue := [] }
      outputs := ⟨s.outputs.video ++ abortPackets s.pixel.frame, s.outputs.link ++ cutRecords s.control.sending⟩ }
  (∀ (q : Request) (s : State), q.body = [1] → s.takes ⟨0x04, q.tag, q.body⟩ = true →
    exec (.restartWarm q) s = .next (begun s ⟨.warmRequest, q.tag⟩)) ∧
  (∀ (q : Request) (s : State), q.body = [2] → s.takes ⟨0x04, q.tag, q.body⟩ = true →
    exec (.restartCold q) s = .next (begun s ⟨.coldRequest, q.tag⟩)) ∧
  (∀ s : State, s.resetLine = false → s.powered = true →
    exec .resetLineAssert s = .next { begun s ⟨.resetLine, 0⟩ with resetLine := true }) ∧
  (∀ s : State, s.resetLine = false → s.powered = false →
    exec .resetLineAssert s = .next { s with resetLine := true })

/-- A device-level reset ends (R21, R35, R53, R69, R124, R135, R149, R163, R164, R169, R176 to R179): every block holds its
values for the level, the cause is set, and RESTARTED is the one notice pending, with its tag. A release of the reset line
ends its reset; while the line is held no other end comes. That the other blocks take their values at the end is the model's
choice (log entry 7). -/
def Obligations.DeviceResetEnds : Prop :=
  let common (s : State) (run : ResetRun) : State :=
    { s with
      resetRun := none, resetCause := run.cause
      intake := ⟨⟨[], [], []⟩, ⟨0, 0, 0⟩⟩
      tracks := ⟨⟨none, .none, none, none, .none⟩, ⟨none, .none, none, none, .none⟩, ⟨none, .none, none, none, .none⟩⟩
      settings := ⟨Params.default, Params.default, Changed.clear, .none⟩
      planner := ⟨[], none, false⟩
      ramps := ⟨⟨0, 0, 0, 0, 0, false, none⟩, ⟨0, 0, 0, 0, 0, false, none⟩, 256⟩
      faults := none
      notices := ⟨true, false, false, false, false, false, false, none, 0, run.tag⟩ }
  let warm (s : State) (run : ResetRun) : State :=
    { common s run with
      slots := s.slots.map fun x =>
        match x with
        | .live .opened _ => .empty
        | .live _ p => .live .ready p
        | .partner i => if (s.slots.get i).isOpened then .empty else .partner i
        | .empty => .empty
      watches := s.watches.map fun w => { w with baseline := .unknown, tripped := false, owed := false }
      pixel := ⟨.stopped, s.pixel.config, [], none, s.pixel.lastFrame, false, false⟩ }
  let cold (s : State) (run : ResetRun) : State :=
    { common s run with
      slots := Eight.all .empty
      watches := Eight.all ⟨0, 0, 0, 65535, 0, .unknown, false, false⟩
      pixel := ⟨.stopped, none, [], none, none, false, false⟩
      control := { s.control with subscriptions := 0 } }
  (∀ (s : State) (run : ResetRun), s.powered = true → s.resetLine = false → s.resetRun = some run →
    exec .resetEnd s = .next (if run.cause = .warmRequest then warm s run else cold s run)) ∧
  (∀ s : State, s.powered = true → s.resetLine = true → s.resetRun ≠ none →
    exec .resetLineRelease s = .next { cold s ⟨.resetLine, 0⟩ with resetLine := false } ∧
    exec .resetEnd s = .next s)

/-- Power (R177): a loss of power ends all activity and leaves the state that power-on gives; power-on begins a reset with
the cause POWER_ON, and the end of that reset leaves the part as State.reset has it. What has been put out stands. The cause
when power is applied with the reset line held, and the clear RESTARTED flag without power, are the model's choice (log
entries 7 and 8). -/
def Obligations.PowerIsLostAndApplied : Prop :=
  (∀ s : State, s.powered = true →
    exec .powerLoss s =
      .next { State.reset with
        pending := s.pending, powered := false, resetLine := s.resetLine
        notices := { State.reset.notices with restarted := false }
        outputs := ⟨s.outputs.video, s.outputs.link ++ cutRecords s.control.sending⟩ }) ∧
  (∀ s : State, s.powered = false →
    exec .powerOn s =
      .next { State.reset with
        pending := s.pending, resetLine := s.resetLine
        resetRun := some ⟨if s.resetLine then .resetLine else .powerOn, 0⟩
        notices := { State.reset.notices with restarted := false }
        outputs := s.outputs }) ∧
  (∀ s t : State, s.powered = false → s.resetLine = false → exec .powerOn s = .next t →
    exec .resetEnd t = .next { State.reset with pending := s.pending, outputs := s.outputs })

/-- The state after the power-on reset meets every invariant of the part; and it has ready deasserted, RESTARTED the one notice
pending, with tag 0, and the cause POWER_ON (R178, R179, R186). -/
def Obligations.ResetMeetsEveryInvariant : Prop :=
  State.reset.HistoryInv ∧ State.reset.TrackInv ∧ State.reset.SettingsInv ∧ State.reset.StoreInv ∧
  State.reset.ContentInv ∧ State.reset.RampInv ∧ State.reset.FaultInv ∧ State.reset.CountInv ∧ State.reset.LinkInv ∧
  State.reset.PixelInv ∧ State.reset.QueueInv ∧ State.reset.PlanInv ∧ State.reset.VideoInv ∧
  State.reset.control.ready = false ∧ State.reset.offered = some .restarted ∧
  pendingKinds State.reset.notices State.reset.watches = 1 ∧ State.reset.notices.restartTag = 0 ∧
  State.reset.resetCause = .powerOn
end

