-- ==== Sys2Proof/Laws/State.lean ====
section
/-! SUPPORT. One lemma for each field under each update of the state, each true by unfolding, and the laws of the
small containers. -/

namespace Sys2Proof.Machine

variable (s : State)

@[simp] theorem State.setPending_pending (x : List Instr) : (s.setPending x).pending = x := rfl
@[simp] theorem State.setPending_powered (x : List Instr) : (s.setPending x).powered = s.powered := rfl
@[simp] theorem State.setPending_resetLine (x : List Instr) : (s.setPending x).resetLine = s.resetLine := rfl
@[simp] theorem State.setPending_resetRun (x : List Instr) : (s.setPending x).resetRun = s.resetRun := rfl
@[simp] theorem State.setPending_resetCause (x : List Instr) : (s.setPending x).resetCause = s.resetCause := rfl
@[simp] theorem State.setPending_control (x : List Instr) : (s.setPending x).control = s.control := rfl
@[simp] theorem State.setPending_lens (x : List Instr) : (s.setPending x).lens = s.lens := rfl
@[simp] theorem State.setPending_intake (x : List Instr) : (s.setPending x).intake = s.intake := rfl
@[simp] theorem State.setPending_tracks (x : List Instr) : (s.setPending x).tracks = s.tracks := rfl
@[simp] theorem State.setPending_slots (x : List Instr) : (s.setPending x).slots = s.slots := rfl
@[simp] theorem State.setPending_settings (x : List Instr) : (s.setPending x).settings = s.settings := rfl
@[simp] theorem State.setPending_planner (x : List Instr) : (s.setPending x).planner = s.planner := rfl
@[simp] theorem State.setPending_pixel (x : List Instr) : (s.setPending x).pixel = s.pixel := rfl
@[simp] theorem State.setPending_ramps (x : List Instr) : (s.setPending x).ramps = s.ramps := rfl
@[simp] theorem State.setPending_watches (x : List Instr) : (s.setPending x).watches = s.watches := rfl
@[simp] theorem State.setPending_notices (x : List Instr) : (s.setPending x).notices = s.notices := rfl
@[simp] theorem State.setPending_faults (x : List Instr) : (s.setPending x).faults = s.faults := rfl
@[simp] theorem State.setPending_outputs (x : List Instr) : (s.setPending x).outputs = s.outputs := rfl

@[simp] theorem State.setPowered_pending (x : Bool) : (s.setPowered x).pending = s.pending := rfl
@[simp] theorem State.setPowered_powered (x : Bool) : (s.setPowered x).powered = x := rfl
@[simp] theorem State.setPowered_resetLine (x : Bool) : (s.setPowered x).resetLine = s.resetLine := rfl
@[simp] theorem State.setPowered_resetRun (x : Bool) : (s.setPowered x).resetRun = s.resetRun := rfl
@[simp] theorem State.setPowered_resetCause (x : Bool) : (s.setPowered x).resetCause = s.resetCause := rfl
@[simp] theorem State.setPowered_control (x : Bool) : (s.setPowered x).control = s.control := rfl
@[simp] theorem State.setPowered_lens (x : Bool) : (s.setPowered x).lens = s.lens := rfl
@[simp] theorem State.setPowered_intake (x : Bool) : (s.setPowered x).intake = s.intake := rfl
@[simp] theorem State.setPowered_tracks (x : Bool) : (s.setPowered x).tracks = s.tracks := rfl
@[simp] theorem State.setPowered_slots (x : Bool) : (s.setPowered x).slots = s.slots := rfl
@[simp] theorem State.setPowered_settings (x : Bool) : (s.setPowered x).settings = s.settings := rfl
@[simp] theorem State.setPowered_planner (x : Bool) : (s.setPowered x).planner = s.planner := rfl
@[simp] theorem State.setPowered_pixel (x : Bool) : (s.setPowered x).pixel = s.pixel := rfl
@[simp] theorem State.setPowered_ramps (x : Bool) : (s.setPowered x).ramps = s.ramps := rfl
@[simp] theorem State.setPowered_watches (x : Bool) : (s.setPowered x).watches = s.watches := rfl
@[simp] theorem State.setPowered_notices (x : Bool) : (s.setPowered x).notices = s.notices := rfl
@[simp] theorem State.setPowered_faults (x : Bool) : (s.setPowered x).faults = s.faults := rfl
@[simp] theorem State.setPowered_outputs (x : Bool) : (s.setPowered x).outputs = s.outputs := rfl

@[simp] theorem State.setResetLine_pending (x : Bool) : (s.setResetLine x).pending = s.pending := rfl
@[simp] theorem State.setResetLine_powered (x : Bool) : (s.setResetLine x).powered = s.powered := rfl
@[simp] theorem State.setResetLine_resetLine (x : Bool) : (s.setResetLine x).resetLine = x := rfl
@[simp] theorem State.setResetLine_resetRun (x : Bool) : (s.setResetLine x).resetRun = s.resetRun := rfl
@[simp] theorem State.setResetLine_resetCause (x : Bool) : (s.setResetLine x).resetCause = s.resetCause := rfl
@[simp] theorem State.setResetLine_control (x : Bool) : (s.setResetLine x).control = s.control := rfl
@[simp] theorem State.setResetLine_lens (x : Bool) : (s.setResetLine x).lens = s.lens := rfl
@[simp] theorem State.setResetLine_intake (x : Bool) : (s.setResetLine x).intake = s.intake := rfl
@[simp] theorem State.setResetLine_tracks (x : Bool) : (s.setResetLine x).tracks = s.tracks := rfl
@[simp] theorem State.setResetLine_slots (x : Bool) : (s.setResetLine x).slots = s.slots := rfl
@[simp] theorem State.setResetLine_settings (x : Bool) : (s.setResetLine x).settings = s.settings := rfl
@[simp] theorem State.setResetLine_planner (x : Bool) : (s.setResetLine x).planner = s.planner := rfl
@[simp] theorem State.setResetLine_pixel (x : Bool) : (s.setResetLine x).pixel = s.pixel := rfl
@[simp] theorem State.setResetLine_ramps (x : Bool) : (s.setResetLine x).ramps = s.ramps := rfl
@[simp] theorem State.setResetLine_watches (x : Bool) : (s.setResetLine x).watches = s.watches := rfl
@[simp] theorem State.setResetLine_notices (x : Bool) : (s.setResetLine x).notices = s.notices := rfl
@[simp] theorem State.setResetLine_faults (x : Bool) : (s.setResetLine x).faults = s.faults := rfl
@[simp] theorem State.setResetLine_outputs (x : Bool) : (s.setResetLine x).outputs = s.outputs := rfl

@[simp] theorem State.setResetRun_pending (x : Option ResetRun) : (s.setResetRun x).pending = s.pending := rfl
@[simp] theorem State.setResetRun_powered (x : Option ResetRun) : (s.setResetRun x).powered = s.powered := rfl
@[simp] theorem State.setResetRun_resetLine (x : Option ResetRun) : (s.setResetRun x).resetLine = s.resetLine := rfl
@[simp] theorem State.setResetRun_resetRun (x : Option ResetRun) : (s.setResetRun x).resetRun = x := rfl
@[simp] theorem State.setResetRun_resetCause (x : Option ResetRun) : (s.setResetRun x).resetCause = s.resetCause := rfl
@[simp] theorem State.setResetRun_control (x : Option ResetRun) : (s.setResetRun x).control = s.control := rfl
@[simp] theorem State.setResetRun_lens (x : Option ResetRun) : (s.setResetRun x).lens = s.lens := rfl
@[simp] theorem State.setResetRun_intake (x : Option ResetRun) : (s.setResetRun x).intake = s.intake := rfl
@[simp] theorem State.setResetRun_tracks (x : Option ResetRun) : (s.setResetRun x).tracks = s.tracks := rfl
@[simp] theorem State.setResetRun_slots (x : Option ResetRun) : (s.setResetRun x).slots = s.slots := rfl
@[simp] theorem State.setResetRun_settings (x : Option ResetRun) : (s.setResetRun x).settings = s.settings := rfl
@[simp] theorem State.setResetRun_planner (x : Option ResetRun) : (s.setResetRun x).planner = s.planner := rfl
@[simp] theorem State.setResetRun_pixel (x : Option ResetRun) : (s.setResetRun x).pixel = s.pixel := rfl
@[simp] theorem State.setResetRun_ramps (x : Option ResetRun) : (s.setResetRun x).ramps = s.ramps := rfl
@[simp] theorem State.setResetRun_watches (x : Option ResetRun) : (s.setResetRun x).watches = s.watches := rfl
@[simp] theorem State.setResetRun_notices (x : Option ResetRun) : (s.setResetRun x).notices = s.notices := rfl
@[simp] theorem State.setResetRun_faults (x : Option ResetRun) : (s.setResetRun x).faults = s.faults := rfl
@[simp] theorem State.setResetRun_outputs (x : Option ResetRun) : (s.setResetRun x).outputs = s.outputs := rfl

@[simp] theorem State.setResetCause_pending (x : ResetCause) : (s.setResetCause x).pending = s.pending := rfl
@[simp] theorem State.setResetCause_powered (x : ResetCause) : (s.setResetCause x).powered = s.powered := rfl
@[simp] theorem State.setResetCause_resetLine (x : ResetCause) : (s.setResetCause x).resetLine = s.resetLine := rfl
@[simp] theorem State.setResetCause_resetRun (x : ResetCause) : (s.setResetCause x).resetRun = s.resetRun := rfl
@[simp] theorem State.setResetCause_resetCause (x : ResetCause) : (s.setResetCause x).resetCause = x := rfl
@[simp] theorem State.setResetCause_control (x : ResetCause) : (s.setResetCause x).control = s.control := rfl
@[simp] theorem State.setResetCause_lens (x : ResetCause) : (s.setResetCause x).lens = s.lens := rfl
@[simp] theorem State.setResetCause_intake (x : ResetCause) : (s.setResetCause x).intake = s.intake := rfl
@[simp] theorem State.setResetCause_tracks (x : ResetCause) : (s.setResetCause x).tracks = s.tracks := rfl
@[simp] theorem State.setResetCause_slots (x : ResetCause) : (s.setResetCause x).slots = s.slots := rfl
@[simp] theorem State.setResetCause_settings (x : ResetCause) : (s.setResetCause x).settings = s.settings := rfl
@[simp] theorem State.setResetCause_planner (x : ResetCause) : (s.setResetCause x).planner = s.planner := rfl
@[simp] theorem State.setResetCause_pixel (x : ResetCause) : (s.setResetCause x).pixel = s.pixel := rfl
@[simp] theorem State.setResetCause_ramps (x : ResetCause) : (s.setResetCause x).ramps = s.ramps := rfl
@[simp] theorem State.setResetCause_watches (x : ResetCause) : (s.setResetCause x).watches = s.watches := rfl
@[simp] theorem State.setResetCause_notices (x : ResetCause) : (s.setResetCause x).notices = s.notices := rfl
@[simp] theorem State.setResetCause_faults (x : ResetCause) : (s.setResetCause x).faults = s.faults := rfl
@[simp] theorem State.setResetCause_outputs (x : ResetCause) : (s.setResetCause x).outputs = s.outputs := rfl

@[simp] theorem State.setControl_pending (x : ControlLink) : (s.setControl x).pending = s.pending := rfl
@[simp] theorem State.setControl_powered (x : ControlLink) : (s.setControl x).powered = s.powered := rfl
@[simp] theorem State.setControl_resetLine (x : ControlLink) : (s.setControl x).resetLine = s.resetLine := rfl
@[simp] theorem State.setControl_resetRun (x : ControlLink) : (s.setControl x).resetRun = s.resetRun := rfl
@[simp] theorem State.setControl_resetCause (x : ControlLink) : (s.setControl x).resetCause = s.resetCause := rfl
@[simp] theorem State.setControl_control (x : ControlLink) : (s.setControl x).control = x := rfl
@[simp] theorem State.setControl_lens (x : ControlLink) : (s.setControl x).lens = s.lens := rfl
@[simp] theorem State.setControl_intake (x : ControlLink) : (s.setControl x).intake = s.intake := rfl
@[simp] theorem State.setControl_tracks (x : ControlLink) : (s.setControl x).tracks = s.tracks := rfl
@[simp] theorem State.setControl_slots (x : ControlLink) : (s.setControl x).slots = s.slots := rfl
@[simp] theorem State.setControl_settings (x : ControlLink) : (s.setControl x).settings = s.settings := rfl
@[simp] theorem State.setControl_planner (x : ControlLink) : (s.setControl x).planner = s.planner := rfl
@[simp] theorem State.setControl_pixel (x : ControlLink) : (s.setControl x).pixel = s.pixel := rfl
@[simp] theorem State.setControl_ramps (x : ControlLink) : (s.setControl x).ramps = s.ramps := rfl
@[simp] theorem State.setControl_watches (x : ControlLink) : (s.setControl x).watches = s.watches := rfl
@[simp] theorem State.setControl_notices (x : ControlLink) : (s.setControl x).notices = s.notices := rfl
@[simp] theorem State.setControl_faults (x : ControlLink) : (s.setControl x).faults = s.faults := rfl
@[simp] theorem State.setControl_outputs (x : ControlLink) : (s.setControl x).outputs = s.outputs := rfl

@[simp] theorem State.setLens_pending (x : LensLink) : (s.setLens x).pending = s.pending := rfl
@[simp] theorem State.setLens_powered (x : LensLink) : (s.setLens x).powered = s.powered := rfl
@[simp] theorem State.setLens_resetLine (x : LensLink) : (s.setLens x).resetLine = s.resetLine := rfl
@[simp] theorem State.setLens_resetRun (x : LensLink) : (s.setLens x).resetRun = s.resetRun := rfl
@[simp] theorem State.setLens_resetCause (x : LensLink) : (s.setLens x).resetCause = s.resetCause := rfl
@[simp] theorem State.setLens_control (x : LensLink) : (s.setLens x).control = s.control := rfl
@[simp] theorem State.setLens_lens (x : LensLink) : (s.setLens x).lens = x := rfl
@[simp] theorem State.setLens_intake (x : LensLink) : (s.setLens x).intake = s.intake := rfl
@[simp] theorem State.setLens_tracks (x : LensLink) : (s.setLens x).tracks = s.tracks := rfl
@[simp] theorem State.setLens_slots (x : LensLink) : (s.setLens x).slots = s.slots := rfl
@[simp] theorem State.setLens_settings (x : LensLink) : (s.setLens x).settings = s.settings := rfl
@[simp] theorem State.setLens_planner (x : LensLink) : (s.setLens x).planner = s.planner := rfl
@[simp] theorem State.setLens_pixel (x : LensLink) : (s.setLens x).pixel = s.pixel := rfl
@[simp] theorem State.setLens_ramps (x : LensLink) : (s.setLens x).ramps = s.ramps := rfl
@[simp] theorem State.setLens_watches (x : LensLink) : (s.setLens x).watches = s.watches := rfl
@[simp] theorem State.setLens_notices (x : LensLink) : (s.setLens x).notices = s.notices := rfl
@[simp] theorem State.setLens_faults (x : LensLink) : (s.setLens x).faults = s.faults := rfl
@[simp] theorem State.setLens_outputs (x : LensLink) : (s.setLens x).outputs = s.outputs := rfl

@[simp] theorem State.setIntake_pending (x : Intake) : (s.setIntake x).pending = s.pending := rfl
@[simp] theorem State.setIntake_powered (x : Intake) : (s.setIntake x).powered = s.powered := rfl
@[simp] theorem State.setIntake_resetLine (x : Intake) : (s.setIntake x).resetLine = s.resetLine := rfl
@[simp] theorem State.setIntake_resetRun (x : Intake) : (s.setIntake x).resetRun = s.resetRun := rfl
@[simp] theorem State.setIntake_resetCause (x : Intake) : (s.setIntake x).resetCause = s.resetCause := rfl
@[simp] theorem State.setIntake_control (x : Intake) : (s.setIntake x).control = s.control := rfl
@[simp] theorem State.setIntake_lens (x : Intake) : (s.setIntake x).lens = s.lens := rfl
@[simp] theorem State.setIntake_intake (x : Intake) : (s.setIntake x).intake = x := rfl
@[simp] theorem State.setIntake_tracks (x : Intake) : (s.setIntake x).tracks = s.tracks := rfl
@[simp] theorem State.setIntake_slots (x : Intake) : (s.setIntake x).slots = s.slots := rfl
@[simp] theorem State.setIntake_settings (x : Intake) : (s.setIntake x).settings = s.settings := rfl
@[simp] theorem State.setIntake_planner (x : Intake) : (s.setIntake x).planner = s.planner := rfl
@[simp] theorem State.setIntake_pixel (x : Intake) : (s.setIntake x).pixel = s.pixel := rfl
@[simp] theorem State.setIntake_ramps (x : Intake) : (s.setIntake x).ramps = s.ramps := rfl
@[simp] theorem State.setIntake_watches (x : Intake) : (s.setIntake x).watches = s.watches := rfl
@[simp] theorem State.setIntake_notices (x : Intake) : (s.setIntake x).notices = s.notices := rfl
@[simp] theorem State.setIntake_faults (x : Intake) : (s.setIntake x).faults = s.faults := rfl
@[simp] theorem State.setIntake_outputs (x : Intake) : (s.setIntake x).outputs = s.outputs := rfl

@[simp] theorem State.setTracks_pending (x : PerAxis Track) : (s.setTracks x).pending = s.pending := rfl
@[simp] theorem State.setTracks_powered (x : PerAxis Track) : (s.setTracks x).powered = s.powered := rfl
@[simp] theorem State.setTracks_resetLine (x : PerAxis Track) : (s.setTracks x).resetLine = s.resetLine := rfl
@[simp] theorem State.setTracks_resetRun (x : PerAxis Track) : (s.setTracks x).resetRun = s.resetRun := rfl
@[simp] theorem State.setTracks_resetCause (x : PerAxis Track) : (s.setTracks x).resetCause = s.resetCause := rfl
@[simp] theorem State.setTracks_control (x : PerAxis Track) : (s.setTracks x).control = s.control := rfl
@[simp] theorem State.setTracks_lens (x : PerAxis Track) : (s.setTracks x).lens = s.lens := rfl
@[simp] theorem State.setTracks_intake (x : PerAxis Track) : (s.setTracks x).intake = s.intake := rfl
@[simp] theorem State.setTracks_tracks (x : PerAxis Track) : (s.setTracks x).tracks = x := rfl
@[simp] theorem State.setTracks_slots (x : PerAxis Track) : (s.setTracks x).slots = s.slots := rfl
@[simp] theorem State.setTracks_settings (x : PerAxis Track) : (s.setTracks x).settings = s.settings := rfl
@[simp] theorem State.setTracks_planner (x : PerAxis Track) : (s.setTracks x).planner = s.planner := rfl
@[simp] theorem State.setTracks_pixel (x : PerAxis Track) : (s.setTracks x).pixel = s.pixel := rfl
@[simp] theorem State.setTracks_ramps (x : PerAxis Track) : (s.setTracks x).ramps = s.ramps := rfl
@[simp] theorem State.setTracks_watches (x : PerAxis Track) : (s.setTracks x).watches = s.watches := rfl
@[simp] theorem State.setTracks_notices (x : PerAxis Track) : (s.setTracks x).notices = s.notices := rfl
@[simp] theorem State.setTracks_faults (x : PerAxis Track) : (s.setTracks x).faults = s.faults := rfl
@[simp] theorem State.setTracks_outputs (x : PerAxis Track) : (s.setTracks x).outputs = s.outputs := rfl

@[simp] theorem State.setSlots_pending (x : Eight Slot) : (s.setSlots x).pending = s.pending := rfl
@[simp] theorem State.setSlots_powered (x : Eight Slot) : (s.setSlots x).powered = s.powered := rfl
@[simp] theorem State.setSlots_resetLine (x : Eight Slot) : (s.setSlots x).resetLine = s.resetLine := rfl
@[simp] theorem State.setSlots_resetRun (x : Eight Slot) : (s.setSlots x).resetRun = s.resetRun := rfl
@[simp] theorem State.setSlots_resetCause (x : Eight Slot) : (s.setSlots x).resetCause = s.resetCause := rfl
@[simp] theorem State.setSlots_control (x : Eight Slot) : (s.setSlots x).control = s.control := rfl
@[simp] theorem State.setSlots_lens (x : Eight Slot) : (s.setSlots x).lens = s.lens := rfl
@[simp] theorem State.setSlots_intake (x : Eight Slot) : (s.setSlots x).intake = s.intake := rfl
@[simp] theorem State.setSlots_tracks (x : Eight Slot) : (s.setSlots x).tracks = s.tracks := rfl
@[simp] theorem State.setSlots_slots (x : Eight Slot) : (s.setSlots x).slots = x := rfl
@[simp] theorem State.setSlots_settings (x : Eight Slot) : (s.setSlots x).settings = s.settings := rfl
@[simp] theorem State.setSlots_planner (x : Eight Slot) : (s.setSlots x).planner = s.planner := rfl
@[simp] theorem State.setSlots_pixel (x : Eight Slot) : (s.setSlots x).pixel = s.pixel := rfl
@[simp] theorem State.setSlots_ramps (x : Eight Slot) : (s.setSlots x).ramps = s.ramps := rfl
@[simp] theorem State.setSlots_watches (x : Eight Slot) : (s.setSlots x).watches = s.watches := rfl
@[simp] theorem State.setSlots_notices (x : Eight Slot) : (s.setSlots x).notices = s.notices := rfl
@[simp] theorem State.setSlots_faults (x : Eight Slot) : (s.setSlots x).faults = s.faults := rfl
@[simp] theorem State.setSlots_outputs (x : Eight Slot) : (s.setSlots x).outputs = s.outputs := rfl

@[simp] theorem State.setSettings_pending (x : Settings) : (s.setSettings x).pending = s.pending := rfl
@[simp] theorem State.setSettings_powered (x : Settings) : (s.setSettings x).powered = s.powered := rfl
@[simp] theorem State.setSettings_resetLine (x : Settings) : (s.setSettings x).resetLine = s.resetLine := rfl
@[simp] theorem State.setSettings_resetRun (x : Settings) : (s.setSettings x).resetRun = s.resetRun := rfl
@[simp] theorem State.setSettings_resetCause (x : Settings) : (s.setSettings x).resetCause = s.resetCause := rfl
@[simp] theorem State.setSettings_control (x : Settings) : (s.setSettings x).control = s.control := rfl
@[simp] theorem State.setSettings_lens (x : Settings) : (s.setSettings x).lens = s.lens := rfl
@[simp] theorem State.setSettings_intake (x : Settings) : (s.setSettings x).intake = s.intake := rfl
@[simp] theorem State.setSettings_tracks (x : Settings) : (s.setSettings x).tracks = s.tracks := rfl
@[simp] theorem State.setSettings_slots (x : Settings) : (s.setSettings x).slots = s.slots := rfl
@[simp] theorem State.setSettings_settings (x : Settings) : (s.setSettings x).settings = x := rfl
@[simp] theorem State.setSettings_planner (x : Settings) : (s.setSettings x).planner = s.planner := rfl
@[simp] theorem State.setSettings_pixel (x : Settings) : (s.setSettings x).pixel = s.pixel := rfl
@[simp] theorem State.setSettings_ramps (x : Settings) : (s.setSettings x).ramps = s.ramps := rfl
@[simp] theorem State.setSettings_watches (x : Settings) : (s.setSettings x).watches = s.watches := rfl
@[simp] theorem State.setSettings_notices (x : Settings) : (s.setSettings x).notices = s.notices := rfl
@[simp] theorem State.setSettings_faults (x : Settings) : (s.setSettings x).faults = s.faults := rfl
@[simp] theorem State.setSettings_outputs (x : Settings) : (s.setSettings x).outputs = s.outputs := rfl

@[simp] theorem State.setPlanner_pending (x : Planner) : (s.setPlanner x).pending = s.pending := rfl
@[simp] theorem State.setPlanner_powered (x : Planner) : (s.setPlanner x).powered = s.powered := rfl
@[simp] theorem State.setPlanner_resetLine (x : Planner) : (s.setPlanner x).resetLine = s.resetLine := rfl
@[simp] theorem State.setPlanner_resetRun (x : Planner) : (s.setPlanner x).resetRun = s.resetRun := rfl
@[simp] theorem State.setPlanner_resetCause (x : Planner) : (s.setPlanner x).resetCause = s.resetCause := rfl
@[simp] theorem State.setPlanner_control (x : Planner) : (s.setPlanner x).control = s.control := rfl
@[simp] theorem State.setPlanner_lens (x : Planner) : (s.setPlanner x).lens = s.lens := rfl
@[simp] theorem State.setPlanner_intake (x : Planner) : (s.setPlanner x).intake = s.intake := rfl
@[simp] theorem State.setPlanner_tracks (x : Planner) : (s.setPlanner x).tracks = s.tracks := rfl
@[simp] theorem State.setPlanner_slots (x : Planner) : (s.setPlanner x).slots = s.slots := rfl
@[simp] theorem State.setPlanner_settings (x : Planner) : (s.setPlanner x).settings = s.settings := rfl
@[simp] theorem State.setPlanner_planner (x : Planner) : (s.setPlanner x).planner = x := rfl
@[simp] theorem State.setPlanner_pixel (x : Planner) : (s.setPlanner x).pixel = s.pixel := rfl
@[simp] theorem State.setPlanner_ramps (x : Planner) : (s.setPlanner x).ramps = s.ramps := rfl
@[simp] theorem State.setPlanner_watches (x : Planner) : (s.setPlanner x).watches = s.watches := rfl
@[simp] theorem State.setPlanner_notices (x : Planner) : (s.setPlanner x).notices = s.notices := rfl
@[simp] theorem State.setPlanner_faults (x : Planner) : (s.setPlanner x).faults = s.faults := rfl
@[simp] theorem State.setPlanner_outputs (x : Planner) : (s.setPlanner x).outputs = s.outputs := rfl

@[simp] theorem State.setPixel_pending (x : PixelPath) : (s.setPixel x).pending = s.pending := rfl
@[simp] theorem State.setPixel_powered (x : PixelPath) : (s.setPixel x).powered = s.powered := rfl
@[simp] theorem State.setPixel_resetLine (x : PixelPath) : (s.setPixel x).resetLine = s.resetLine := rfl
@[simp] theorem State.setPixel_resetRun (x : PixelPath) : (s.setPixel x).resetRun = s.resetRun := rfl
@[simp] theorem State.setPixel_resetCause (x : PixelPath) : (s.setPixel x).resetCause = s.resetCause := rfl
@[simp] theorem State.setPixel_control (x : PixelPath) : (s.setPixel x).control = s.control := rfl
@[simp] theorem State.setPixel_lens (x : PixelPath) : (s.setPixel x).lens = s.lens := rfl
@[simp] theorem State.setPixel_intake (x : PixelPath) : (s.setPixel x).intake = s.intake := rfl
@[simp] theorem State.setPixel_tracks (x : PixelPath) : (s.setPixel x).tracks = s.tracks := rfl
@[simp] theorem State.setPixel_slots (x : PixelPath) : (s.setPixel x).slots = s.slots := rfl
@[simp] theorem State.setPixel_settings (x : PixelPath) : (s.setPixel x).settings = s.settings := rfl
@[simp] theorem State.setPixel_planner (x : PixelPath) : (s.setPixel x).planner = s.planner := rfl
@[simp] theorem State.setPixel_pixel (x : PixelPath) : (s.setPixel x).pixel = x := rfl
@[simp] theorem State.setPixel_ramps (x : PixelPath) : (s.setPixel x).ramps = s.ramps := rfl
@[simp] theorem State.setPixel_watches (x : PixelPath) : (s.setPixel x).watches = s.watches := rfl
@[simp] theorem State.setPixel_notices (x : PixelPath) : (s.setPixel x).notices = s.notices := rfl
@[simp] theorem State.setPixel_faults (x : PixelPath) : (s.setPixel x).faults = s.faults := rfl
@[simp] theorem State.setPixel_outputs (x : PixelPath) : (s.setPixel x).outputs = s.outputs := rfl

@[simp] theorem State.setRamps_pending (x : RampUnit) : (s.setRamps x).pending = s.pending := rfl
@[simp] theorem State.setRamps_powered (x : RampUnit) : (s.setRamps x).powered = s.powered := rfl
@[simp] theorem State.setRamps_resetLine (x : RampUnit) : (s.setRamps x).resetLine = s.resetLine := rfl
@[simp] theorem State.setRamps_resetRun (x : RampUnit) : (s.setRamps x).resetRun = s.resetRun := rfl
@[simp] theorem State.setRamps_resetCause (x : RampUnit) : (s.setRamps x).resetCause = s.resetCause := rfl
@[simp] theorem State.setRamps_control (x : RampUnit) : (s.setRamps x).control = s.control := rfl
@[simp] theorem State.setRamps_lens (x : RampUnit) : (s.setRamps x).lens = s.lens := rfl
@[simp] theorem State.setRamps_intake (x : RampUnit) : (s.setRamps x).intake = s.intake := rfl
@[simp] theorem State.setRamps_tracks (x : RampUnit) : (s.setRamps x).tracks = s.tracks := rfl
@[simp] theorem State.setRamps_slots (x : RampUnit) : (s.setRamps x).slots = s.slots := rfl
@[simp] theorem State.setRamps_settings (x : RampUnit) : (s.setRamps x).settings = s.settings := rfl
@[simp] theorem State.setRamps_planner (x : RampUnit) : (s.setRamps x).planner = s.planner := rfl
@[simp] theorem State.setRamps_pixel (x : RampUnit) : (s.setRamps x).pixel = s.pixel := rfl
@[simp] theorem State.setRamps_ramps (x : RampUnit) : (s.setRamps x).ramps = x := rfl
@[simp] theorem State.setRamps_watches (x : RampUnit) : (s.setRamps x).watches = s.watches := rfl
@[simp] theorem State.setRamps_notices (x : RampUnit) : (s.setRamps x).notices = s.notices := rfl
@[simp] theorem State.setRamps_faults (x : RampUnit) : (s.setRamps x).faults = s.faults := rfl
@[simp] theorem State.setRamps_outputs (x : RampUnit) : (s.setRamps x).outputs = s.outputs := rfl

@[simp] theorem State.setWatches_pending (x : Eight Watch) : (s.setWatches x).pending = s.pending := rfl
@[simp] theorem State.setWatches_powered (x : Eight Watch) : (s.setWatches x).powered = s.powered := rfl
@[simp] theorem State.setWatches_resetLine (x : Eight Watch) : (s.setWatches x).resetLine = s.resetLine := rfl
@[simp] theorem State.setWatches_resetRun (x : Eight Watch) : (s.setWatches x).resetRun = s.resetRun := rfl
@[simp] theorem State.setWatches_resetCause (x : Eight Watch) : (s.setWatches x).resetCause = s.resetCause := rfl
@[simp] theorem State.setWatches_control (x : Eight Watch) : (s.setWatches x).control = s.control := rfl
@[simp] theorem State.setWatches_lens (x : Eight Watch) : (s.setWatches x).lens = s.lens := rfl
@[simp] theorem State.setWatches_intake (x : Eight Watch) : (s.setWatches x).intake = s.intake := rfl
@[simp] theorem State.setWatches_tracks (x : Eight Watch) : (s.setWatches x).tracks = s.tracks := rfl
@[simp] theorem State.setWatches_slots (x : Eight Watch) : (s.setWatches x).slots = s.slots := rfl
@[simp] theorem State.setWatches_settings (x : Eight Watch) : (s.setWatches x).settings = s.settings := rfl
@[simp] theorem State.setWatches_planner (x : Eight Watch) : (s.setWatches x).planner = s.planner := rfl
@[simp] theorem State.setWatches_pixel (x : Eight Watch) : (s.setWatches x).pixel = s.pixel := rfl
@[simp] theorem State.setWatches_ramps (x : Eight Watch) : (s.setWatches x).ramps = s.ramps := rfl
@[simp] theorem State.setWatches_watches (x : Eight Watch) : (s.setWatches x).watches = x := rfl
@[simp] theorem State.setWatches_notices (x : Eight Watch) : (s.setWatches x).notices = s.notices := rfl
@[simp] theorem State.setWatches_faults (x : Eight Watch) : (s.setWatches x).faults = s.faults := rfl
@[simp] theorem State.setWatches_outputs (x : Eight Watch) : (s.setWatches x).outputs = s.outputs := rfl

@[simp] theorem State.setNotices_pending (x : Notices) : (s.setNotices x).pending = s.pending := rfl
@[simp] theorem State.setNotices_powered (x : Notices) : (s.setNotices x).powered = s.powered := rfl
@[simp] theorem State.setNotices_resetLine (x : Notices) : (s.setNotices x).resetLine = s.resetLine := rfl
@[simp] theorem State.setNotices_resetRun (x : Notices) : (s.setNotices x).resetRun = s.resetRun := rfl
@[simp] theorem State.setNotices_resetCause (x : Notices) : (s.setNotices x).resetCause = s.resetCause := rfl
@[simp] theorem State.setNotices_control (x : Notices) : (s.setNotices x).control = s.control := rfl
@[simp] theorem State.setNotices_lens (x : Notices) : (s.setNotices x).lens = s.lens := rfl
@[simp] theorem State.setNotices_intake (x : Notices) : (s.setNotices x).intake = s.intake := rfl
@[simp] theorem State.setNotices_tracks (x : Notices) : (s.setNotices x).tracks = s.tracks := rfl
@[simp] theorem State.setNotices_slots (x : Notices) : (s.setNotices x).slots = s.slots := rfl
@[simp] theorem State.setNotices_settings (x : Notices) : (s.setNotices x).settings = s.settings := rfl
@[simp] theorem State.setNotices_planner (x : Notices) : (s.setNotices x).planner = s.planner := rfl
@[simp] theorem State.setNotices_pixel (x : Notices) : (s.setNotices x).pixel = s.pixel := rfl
@[simp] theorem State.setNotices_ramps (x : Notices) : (s.setNotices x).ramps = s.ramps := rfl
@[simp] theorem State.setNotices_watches (x : Notices) : (s.setNotices x).watches = s.watches := rfl
@[simp] theorem State.setNotices_notices (x : Notices) : (s.setNotices x).notices = x := rfl
@[simp] theorem State.setNotices_faults (x : Notices) : (s.setNotices x).faults = s.faults := rfl
@[simp] theorem State.setNotices_outputs (x : Notices) : (s.setNotices x).outputs = s.outputs := rfl

@[simp] theorem State.setFaults_pending (x : Option FaultEntry) : (s.setFaults x).pending = s.pending := rfl
@[simp] theorem State.setFaults_powered (x : Option FaultEntry) : (s.setFaults x).powered = s.powered := rfl
@[simp] theorem State.setFaults_resetLine (x : Option FaultEntry) : (s.setFaults x).resetLine = s.resetLine := rfl
@[simp] theorem State.setFaults_resetRun (x : Option FaultEntry) : (s.setFaults x).resetRun = s.resetRun := rfl
@[simp] theorem State.setFaults_resetCause (x : Option FaultEntry) : (s.setFaults x).resetCause = s.resetCause := rfl
@[simp] theorem State.setFaults_control (x : Option FaultEntry) : (s.setFaults x).control = s.control := rfl
@[simp] theorem State.setFaults_lens (x : Option FaultEntry) : (s.setFaults x).lens = s.lens := rfl
@[simp] theorem State.setFaults_intake (x : Option FaultEntry) : (s.setFaults x).intake = s.intake := rfl
@[simp] theorem State.setFaults_tracks (x : Option FaultEntry) : (s.setFaults x).tracks = s.tracks := rfl
@[simp] theorem State.setFaults_slots (x : Option FaultEntry) : (s.setFaults x).slots = s.slots := rfl
@[simp] theorem State.setFaults_settings (x : Option FaultEntry) : (s.setFaults x).settings = s.settings := rfl
@[simp] theorem State.setFaults_planner (x : Option FaultEntry) : (s.setFaults x).planner = s.planner := rfl
@[simp] theorem State.setFaults_pixel (x : Option FaultEntry) : (s.setFaults x).pixel = s.pixel := rfl
@[simp] theorem State.setFaults_ramps (x : Option FaultEntry) : (s.setFaults x).ramps = s.ramps := rfl
@[simp] theorem State.setFaults_watches (x : Option FaultEntry) : (s.setFaults x).watches = s.watches := rfl
@[simp] theorem State.setFaults_notices (x : Option FaultEntry) : (s.setFaults x).notices = s.notices := rfl
@[simp] theorem State.setFaults_faults (x : Option FaultEntry) : (s.setFaults x).faults = x := rfl
@[simp] theorem State.setFaults_outputs (x : Option FaultEntry) : (s.setFaults x).outputs = s.outputs := rfl

@[simp] theorem State.setOutputs_pending (x : Outputs) : (s.setOutputs x).pending = s.pending := rfl
@[simp] theorem State.setOutputs_powered (x : Outputs) : (s.setOutputs x).powered = s.powered := rfl
@[simp] theorem State.setOutputs_resetLine (x : Outputs) : (s.setOutputs x).resetLine = s.resetLine := rfl
@[simp] theorem State.setOutputs_resetRun (x : Outputs) : (s.setOutputs x).resetRun = s.resetRun := rfl
@[simp] theorem State.setOutputs_resetCause (x : Outputs) : (s.setOutputs x).resetCause = s.resetCause := rfl
@[simp] theorem State.setOutputs_control (x : Outputs) : (s.setOutputs x).control = s.control := rfl
@[simp] theorem State.setOutputs_lens (x : Outputs) : (s.setOutputs x).lens = s.lens := rfl
@[simp] theorem State.setOutputs_intake (x : Outputs) : (s.setOutputs x).intake = s.intake := rfl
@[simp] theorem State.setOutputs_tracks (x : Outputs) : (s.setOutputs x).tracks = s.tracks := rfl
@[simp] theorem State.setOutputs_slots (x : Outputs) : (s.setOutputs x).slots = s.slots := rfl
@[simp] theorem State.setOutputs_settings (x : Outputs) : (s.setOutputs x).settings = s.settings := rfl
@[simp] theorem State.setOutputs_planner (x : Outputs) : (s.setOutputs x).planner = s.planner := rfl
@[simp] theorem State.setOutputs_pixel (x : Outputs) : (s.setOutputs x).pixel = s.pixel := rfl
@[simp] theorem State.setOutputs_ramps (x : Outputs) : (s.setOutputs x).ramps = s.ramps := rfl
@[simp] theorem State.setOutputs_watches (x : Outputs) : (s.setOutputs x).watches = s.watches := rfl
@[simp] theorem State.setOutputs_notices (x : Outputs) : (s.setOutputs x).notices = s.notices := rfl
@[simp] theorem State.setOutputs_faults (x : Outputs) : (s.setOutputs x).faults = s.faults := rfl
@[simp] theorem State.setOutputs_outputs (x : Outputs) : (s.setOutputs x).outputs = x := rfl


section Containers

variable {α β : Type}

@[simp] theorem Eight.get_set_same (v : Eight α) (i : Fin 8) (x : α) : (v.set i x).get i = x := by
  fin_cases i <;> rfl

theorem Eight.get_set_ne (v : Eight α) {i j : Fin 8} (x : α) (h : j ≠ i) : (v.set i x).get j = v.get j := by
  fin_cases i <;> fin_cases j <;> first | rfl | exact absurd rfl h

theorem Eight.get_set (v : Eight α) (i j : Fin 8) (x : α) :
    (v.set i x).get j = if j = i then x else v.get j := by
  by_cases h : j = i
  · subst h; simp
  · simp [h, Eight.get_set_ne v x h]

@[simp] theorem Eight.get_map (f : α → β) (v : Eight α) (i : Fin 8) : (v.map f).get i = f (v.get i) := by
  fin_cases i <;> rfl

@[simp] theorem Eight.get_all (x : α) (i : Fin 8) : (Eight.all x).get i = x := by
  fin_cases i <;> rfl

theorem Eight.ext_get {v w : Eight α} (h : ∀ i, v.get i = w.get i) : v = w := by
  cases v; cases w
  have h0 := h 0; have h1 := h 1; have h2 := h 2; have h3 := h 3
  have h4 := h 4; have h5 := h 5; have h6 := h 6; have h7 := h 7
  simp only [Eight.get] at h0 h1 h2 h3 h4 h5 h6 h7
  subst h0 h1 h2 h3 h4 h5 h6 h7; rfl

@[simp] theorem Eight.mem_toList {v : Eight α} {x : α} : x ∈ v.toList ↔ ∃ i, v.get i = x := by
  constructor
  · intro h
    simp only [Eight.toList, List.mem_cons, List.not_mem_nil, or_false] at h
    rcases h with h | h | h | h | h | h | h | h
    exacts [⟨0, h.symm⟩, ⟨1, h.symm⟩, ⟨2, h.symm⟩, ⟨3, h.symm⟩, ⟨4, h.symm⟩, ⟨5, h.symm⟩, ⟨6, h.symm⟩, ⟨7, h.symm⟩]
  · rintro ⟨i, rfl⟩
    fin_cases i <;> simp [Eight.toList, Eight.get]

@[simp] theorem PerAxis.get_map (f : α → β) (p : PerAxis α) (a : Axis) : (p.map f).get a = f (p.get a) := by
  cases a <;> rfl

@[simp] theorem PerSource.get_set_same (p : PerSource α) (k : Source) (x : α) : (p.set k x).get k = x := by
  cases k <;> rfl

theorem PerSource.get_set_ne (p : PerSource α) {k j : Source} (x : α) (h : j ≠ k) :
    (p.set k x).get j = p.get j := by
  cases k <;> cases j <;> first | rfl | exact absurd rfl h

theorem index8_eq_some {n : Nat} {i : Fin 8} : index8 n = some i ↔ n = i.val := by
  unfold index8
  split
  · rename_i h
    simp only [Option.some.injEq]
    exact ⟨fun e => by rw [← e], fun e => Fin.ext e⟩
  · rename_i h
    constructor
    · intro e; cases e
    · intro e; exact absurd (e ▸ i.isLt) h

theorem index8_eq_none {n : Nat} : index8 n = none ↔ 8 ≤ n := by
  unfold index8; split <;> simp_all

end Containers

end Sys2Proof.Machine
end

