-- ==== Sys2Proof/Laws/Requests.lean ====
section
/-! SUPPORT. What the taking of a request can do, said once: a request that is not taken, one of a wrong length, and one that its
owner answers. The statements speak of `answered`; these lemmas lead from the model's operations to it. -/

namespace Sys2Proof.Machine

/-- The record's leaving of the buffer and the reply's entry are together what `answered` says. -/
theorem removeOldest_reply (s : State) (r : Record) : s.removeOldest.reply r = s.answered r := by
  unfold State.removeOldest State.reply State.answered State.setControl
  rcases h : s.restartedOutstanding <;> simp [Config.inboundCapacity]

/-- A request that the link does not take changes nothing. -/
theorem takeRequest_of_not_takes {kind : Byte} {q : Request} {owner : State → Answer} {s : State}
    (h : s.takes ⟨kind, q.tag, q.body⟩ = false) : takeRequest kind q owner s = s := by
  simp [takeRequest, h]

/-- A request of a wrong length is answered BAD_LENGTH, and nothing else happens. -/
theorem takeRequest_of_wrong_length {kind : Byte} {q : Request} {owner : State → Answer} {s : State}
    (h : s.takes ⟨kind, q.tag, q.body⟩ = true) (hl : lengthAgrees kind q.body.length = false) :
    takeRequest kind q owner s = s.answered (replyTo kind q .badLength (leBytes 2 q.body.length)) := by
  simp [takeRequest, h, hl, refuseLength, answer, removeOldest_reply, replyTo]

/-- A request of a good length is carried out by its owner on the state that its record has left, and answered. -/
theorem takeRequest_of_takes {kind : Byte} {q : Request} {owner : State → Answer} {s : State}
    (h : s.takes ⟨kind, q.tag, q.body⟩ = true) (hl : lengthAgrees kind q.body.length = true) :
    takeRequest kind q owner s =
      (owner s.removeOldest).state.reply ⟨kind + 0x80, q.tag, (owner s.removeOldest).body⟩ := by
  simp [takeRequest, h, hl]

/-- An owner that refuses leaves the state of the taking and the reply. -/
theorem takeRequest_of_refusal {kind : Byte} {q : Request} {owner : State → Answer} {s : State} {code : ResultCode}
    {fields : List Byte} (h : s.takes ⟨kind, q.tag, q.body⟩ = true) (hl : lengthAgrees kind q.body.length = true)
    (ho : owner s.removeOldest = answer code fields s.removeOldest) :
    takeRequest kind q owner s = s.answered (replyTo kind q code fields) := by
  simp [takeRequest, h, hl, ho, answer, removeOldest_reply, replyTo]

/-- A record of no request kind is answered BAD_KIND, and nothing else happens. -/
theorem takeUnknown_of_takes {kind : Byte} {q : Request} {s : State} (h : s.takes ⟨kind, q.tag, q.body⟩ = true)
    (hk : (requestLength kind).isNone = true) : takeUnknown kind q s = s.answered ⟨0xFF, q.tag, [1, kind]⟩ := by
  have h' : requestLength kind = none := by simpa using hk
  simp [takeUnknown, h, h', removeOldest_reply, ResultCode.code]

/-- A record that the link takes is its oldest, an entry of the reply queue is free, and the part runs. -/
theorem takes_iff {s : State} {r : Record} :
    s.takes r = true ↔ s.running = true ∧ s.control.replies.length < 16 ∧ s.control.inbound.head? = some r := by
  simp [State.takes, Config.replyCapacity, and_assoc]

/-! ### What the taking leaves alone -/

variable (s : State)

@[simp] theorem removeOldest_replies : s.removeOldest.control.replies = s.control.replies := rfl
@[simp] theorem removeOldest_inbound : s.removeOldest.control.inbound = s.control.inbound.tail := rfl
@[simp] theorem removeOldest_receiver : s.removeOldest.control.receiver = s.control.receiver := rfl
@[simp] theorem removeOldest_sending : s.removeOldest.control.sending = s.control.sending := rfl
@[simp] theorem removeOldest_subscriptions : s.removeOldest.control.subscriptions = s.control.subscriptions := rfl
@[simp] theorem removeOldest_pending : s.removeOldest.pending = s.pending := rfl
@[simp] theorem removeOldest_powered : s.removeOldest.powered = s.powered := rfl
@[simp] theorem removeOldest_resetLine : s.removeOldest.resetLine = s.resetLine := rfl
@[simp] theorem removeOldest_resetRun : s.removeOldest.resetRun = s.resetRun := rfl
@[simp] theorem removeOldest_resetCause : s.removeOldest.resetCause = s.resetCause := rfl
@[simp] theorem removeOldest_lens : s.removeOldest.lens = s.lens := rfl
@[simp] theorem removeOldest_intake : s.removeOldest.intake = s.intake := rfl
@[simp] theorem removeOldest_tracks : s.removeOldest.tracks = s.tracks := rfl
@[simp] theorem removeOldest_slots : s.removeOldest.slots = s.slots := rfl
@[simp] theorem removeOldest_settings : s.removeOldest.settings = s.settings := rfl
@[simp] theorem removeOldest_planner : s.removeOldest.planner = s.planner := rfl
@[simp] theorem removeOldest_pixel : s.removeOldest.pixel = s.pixel := rfl
@[simp] theorem removeOldest_ramps : s.removeOldest.ramps = s.ramps := rfl
@[simp] theorem removeOldest_watches : s.removeOldest.watches = s.watches := rfl
@[simp] theorem removeOldest_notices : s.removeOldest.notices = s.notices := rfl
@[simp] theorem removeOldest_faults : s.removeOldest.faults = s.faults := rfl
@[simp] theorem removeOldest_outputs : s.removeOldest.outputs = s.outputs := rfl

end Sys2Proof.Machine
end

