-- ==== Sys2Proof/Laws/Operations.lean ====
section
/-! SUPPORT. What each shared operation can do, said once: the fault report, the hand-over of a frame report, the taking effect
of an apply, the abort of a frame, the start of a device-level reset, the two parts of the line store, and the framing of
records. -/

namespace Sys2Proof.Machine

/-! ### Small containers and numbers -/

/-- The pair of a slot's partner is the slot. -/
@[simp] theorem partnerOf_partnerOf (i : Fin 8) : partnerOf (partnerOf i) = i := by
  revert i; decide

/-- A slot is not its own partner. -/
theorem partnerOf_ne (i : Fin 8) : partnerOf i ≠ i := by
  revert i; decide

/-- The bytes of a multi-byte field are as many as the field has. -/
@[simp] theorem leBytes_length (k n : Nat) : (leBytes k n).length = k := by
  induction k generalizing n with
  | zero => rfl
  | succ k ih => simp [leBytes, ih]

/-- A multi-byte field holds its number, less what the field has no room for (00_scope 5.7). -/
theorem leNat_leBytes (k n : Nat) : leNat (leBytes k n) = n % 256 ^ k := by
  induction k generalizing n with
  | zero => simp [leBytes, leNat, Nat.mod_one]
  | succ k ih =>
    have h : n % 256 ^ (k + 1) = n % 256 + 256 * (n / 256 % 256 ^ k) := by rw [Nat.pow_succ', Nat.mod_mul]
    simp only [leBytes, leNat, ih, BitVec.toNat_ofNat, h]

/-- A count is one higher and stops at its most. -/
theorem saturatingSucc_countMax (n : Nat) : saturatingSucc Config.countMax n = countUp n := rfl

/-! ### Taking a request -/

/-- The leaving of the oldest record touches the inbound buffer and the ready line only (R185, R186). -/
theorem removeOldest_eq (s : State) :
    s.removeOldest =
      { s with
        control :=
          { s.control with
            inbound := s.control.inbound.tail
            ready := s.control.ready || (decide (s.control.inbound.length = 8) && !s.restartedOutstanding) } } := by
  unfold State.removeOldest State.setControl
  cases h : s.restartedOutstanding <;> simp [Config.inboundCapacity]

/-! ### Faults, reports and applies -/

/-- A fault report fills the record or counts a fault that follows (R169). -/
theorem reportFault_eq (s : State) (kind : FaultKind) (frame row : Option Nat) :
    s.reportFault kind frame row = s.faulted kind frame row := by
  unfold State.reportFault State.faulted
  cases h : s.faults <;> simp [State.setFaults, State.setNotices, saturatingSucc, Config.followingMax]

/-- A hand-over counts the frame, and retains its report with the flag set when FRAME_SUMMARY is subscribed (R158). -/
theorem handOver_eq (s : State) (report : FrameReport) :
    s.handOver report =
      { s with
        notices :=
          { s.notices with
            framesCount := countUp s.notices.framesCount
            retained := if s.control.subscriptions.getLsbD 7 then some report else s.notices.retained
            summary := s.notices.summary || s.control.subscriptions.getLsbD 7 } } := by
  unfold State.handOver State.setNotices subscribed NoticeKind.bit
  cases h : s.control.subscriptions.getLsbD 7 <;> simp [saturatingSucc_countMax]

/-- An apply that takes effect changes the settings stage and the slots, and nothing else (R17, R131). -/
theorem applyNow_eq (s : State) :
    s.applyNow =
      { s with
        slots :=
          if s.settings.changed.profile then changeUse s.slots s.settings.active.profile s.settings.staged.profile
          else s.slots
        settings := s.settings.applied } := rfl

/-- Where a clear changed flag means equal copies, an apply leaves both copies at the staged values (R131, R136). -/
theorem merged_eq_staged (x : Settings) (h : CopiesAgree x) : x.merged = x.staged := by
  obtain ⟨h0, h1, h2, h3, h4, h5, h6, h7, h8, h9⟩ := h
  have pick {α : Type} (b : Bool) (p q : α) (hb : b = false → p = q) : (if b = true then p else q) = p := by
    cases b with
    | true => rfl
    | false => exact (hb rfl).symm
  unfold Settings.merged
  rw [pick _ _ _ h0, pick _ _ _ h1, pick _ _ _ h2, pick _ _ _ h3, pick _ _ _ h4, pick _ _ _ h5, pick _ _ _ h6,
    pick _ _ _ h7, pick _ _ _ h8, pick _ _ _ h9]

/-! ### Aborts and resets -/

/-- An abort puts out the header if it has not left and a trailer marked ABORTED, and marks the frame so (R124). -/
theorem abortOutput_eq (s : State) :
    s.abortOutput =
      { s with
        outputs := { s.outputs with video := s.outputs.video ++ abortPackets s.pixel.frame }
        pixel :=
          { s.pixel with
            frame := s.pixel.frame.map fun f =>
              { f with headerSent := true, report := { f.report with aborted := true } } } } := by
  unfold State.abortOutput State.emitHeader State.emitTrailer abortPackets
  rcases s with ⟨_, _, _, _, _, _, _, _, _, _, _, _, ⟨_, _, _, frame, _, _, _⟩, _, _, _, _, _⟩
  cases frame with
  | none => simp [PixelPath.mapReport, State.setPixel]
  | some f =>
    rcases f with ⟨header, sent, report⟩
    cases sent <;> simp [State.emit, PixelPath.mapReport, State.setPixel, State.setOutputs]

/-- The end of a sending part way is seen at the transmit line only (R189). -/
theorem cutSending_eq (s : State) :
    s.cutSending = { s with outputs := { s.outputs with link := s.outputs.link ++ cutRecords s.control.sending } } := by
  unfold State.cutSending cutRecords
  rcases h : s.control.sending with _ | _ | _ <;> simp [State.transmit, State.setOutputs]

/-- The start of a device-level reset empties the links and stops the stream; every other block stands until the reset ends
(R124, R176, R194). -/
theorem beginReset_eq (s : State) (run : ResetRun) :
    s.beginReset run =
      { s with
        resetRun := some run
        control := ⟨.hunting, [], false, [], none, 0, 0, s.control.subscriptions⟩
        lens := ⟨.hunting, 0⟩
        pixel := { s.pixel with stream := .stopped, lineStore := [], frame := none, skip := false, orphan := false }
        planner := { s.planner with queue := [] }
        outputs :=
          ⟨s.outputs.video ++ abortPackets s.pixel.frame, s.outputs.link ++ cutRecords s.control.sending⟩ } := by
  simp [State.beginReset, State.abortAtReset, abortOutput_eq, cutSending_eq, State.stopStream, State.setPixel,
    State.setPlanner, State.setControl, State.setLens, State.setResetRun, ControlLink.atResetStart, LensLink.initial]

/-! ### The line store -/

/-- The index of a stored row takes the place of the index one depth behind it, so the store goes on holding a run of
consecutive rows, lowest first (R111). -/
theorem storeRow_indices {depth r : Nat} {store : List (Nat × Row)} {row : Row} (hd : 0 < depth)
    (h : store.map Prod.fst = List.range' (r - depth) (r - (r - depth))) :
    (storeRow depth store r row).map Prod.fst = List.range' (r + 1 - depth) (r + 1 - (r + 1 - depth)) := by
  have hf : (store.filter fun e => decide (e.1 % depth ≠ r % depth)).map Prod.fst =
      (store.map Prod.fst).filter fun n => decide (n % depth ≠ r % depth) := by
    rw [List.filter_map]; rfl
  simp only [storeRow, List.map_append, hf, h, List.map_cons, List.map_nil]
  by_cases hr : r < depth
  · have e0 : r - depth = 0 := by omega
    have e1 : r + 1 - depth = 0 := by omega
    rw [e0, e1, Nat.sub_zero, Nat.sub_zero, List.range'_1_concat, List.filter_eq_self.mpr]
    · simp
    · intro n hn
      have hn' : n < r := by simpa using hn
      simp only [ne_eq, decide_not, Bool.not_eq_eq_eq_not, Bool.not_true, decide_eq_false_iff_not]
      rw [Nat.mod_eq_of_lt hr, Nat.mod_eq_of_lt (by omega)]
      omega
  · have e0 : r - (r - depth) = depth := by omega
    have e1 : r + 1 - (r + 1 - depth) = depth := by omega
    have e2 : r + 1 - depth = (r - depth) + 1 := by omega
    obtain ⟨d, rfl⟩ := Nat.exists_eq_succ_of_ne_zero (Nat.pos_iff_ne_zero.mp hd)
    have hs : r - (d + 1) + 1 + d = r := by omega
    have hm : (r - (d + 1)) % (d + 1) = r % (d + 1) := by
      conv_rhs => rw [show r = (r - (d + 1)) + (d + 1) by omega, Nat.add_mod_right]
    rw [e0, e1, e2, List.range'_succ, List.filter_cons, if_neg (by simp [hm]), List.range'_1_concat, hs,
      List.filter_eq_self.mpr]
    intro n hn
    have hn' := List.mem_range'_1.mp hn
    simp only [ne_eq, decide_not, Bool.not_eq_eq_eq_not, Bool.not_true, decide_eq_false_iff_not]
    intro hc
    have h2 : (r - n) % (d + 1) = 0 := Nat.sub_mod_eq_zero_of_mod_eq hc.symm
    rw [Nat.mod_eq_of_lt (by omega)] at h2
    omega

/-- Rows are released from the lowest index on, so the store goes on holding a run of consecutive rows (R109, R111). -/
theorem releaseRows_indices {bound lo n : Nat} {store : List (Nat × Row)} (h : store.map Prod.fst = List.range' lo n) :
    (releaseRows bound store).map Prod.fst = List.range' (max lo bound) (lo + n - max lo bound) := by
  have hf : (releaseRows bound store).map Prod.fst = (store.map Prod.fst).filter fun m => decide (bound ≤ m) := by
    rw [releaseRows, List.filter_map]; rfl
  rw [hf, h]
  clear hf h
  induction n generalizing lo with
  | zero => simp
  | succ n ih =>
    rw [List.range'_succ, List.filter_cons]
    by_cases hb : bound ≤ lo
    · have e : lo + (n + 1) - max lo bound = n + 1 := by omega
      rw [if_pos (by simpa using hb), ih, e, show max lo bound = lo by omega, List.range'_succ,
        show max (lo + 1) bound = lo + 1 by omega, show lo + 1 + n - (lo + 1) = n by omega]
    · rw [if_neg (by simpa using hb), ih, show max (lo + 1) bound = max lo bound by omega,
        show lo + 1 + n = lo + (n + 1) by omega]

/-- The row found at an index that is held once is that row (R111). -/
theorem heldRow_mem {store : List (Nat × Row)} {r : Nat} (h : ∃ row, (r, row) ∈ store) : (r, heldRow store r) ∈ store := by
  unfold heldRow
  obtain ⟨row, hm⟩ := h
  cases hf : store.find? fun e => e.1 == r with
  | none =>
    have := List.find?_eq_none.mp hf _ hm
    simp at this
  | some e =>
    have h1 := List.mem_of_find?_eq_some hf
    have h2 : e.1 = r := by simpa using List.find?_some hf
    simpa [← h2] using h1

/-! ### The framing of records -/

/-- The bytes of a record after its start byte are received as that record, with what follows them left over (R181,
R182). -/
theorem receiveRecord_recordBytes (r : Record) (rest : List Byte) (h : r.body.length ≤ 1024) :
    receiveRecord ((recordBytes r).tail ++ rest) = .good r rest := by
  have hlen : leNat (leBytes 2 (r.body.length + 2)) = r.body.length + 2 := by
    rw [leNat_leBytes]; omega
  have hb : leBytes 2 (r.body.length + 2) =
      [BitVec.ofNat 8 (r.body.length + 2), BitVec.ofNat 8 ((r.body.length + 2) / 256)] := rfl
  have hcrc : ∀ c : BitVec 16, leNat (leBytes 2 c.toNat) = c.toNat := by
    intro c; rw [leNat_leBytes]; omega
  rw [hb] at hlen
  simp only [recordBytes, recordContent, hb, List.cons_append, List.nil_append, List.tail_cons, List.append_assoc,
    receiveRecord, hlen]
  rw [if_neg (by omega), if_neg (by simp; omega)]
  have ht : (r.kind :: r.tag :: (r.body ++ (leBytes 2
        (crc16 (BitVec.ofNat 8 (r.body.length + 2) :: BitVec.ofNat 8 ((r.body.length + 2) / 256) :: r.kind :: r.tag ::
          r.body)).toNat ++ rest))).take (r.body.length + 2) = r.kind :: r.tag :: r.body := by
    simp
  have hd : (r.kind :: r.tag :: (r.body ++ (leBytes 2
        (crc16 (BitVec.ofNat 8 (r.body.length + 2) :: BitVec.ofNat 8 ((r.body.length + 2) / 256) :: r.kind :: r.tag ::
          r.body)).toNat ++ rest))).drop (r.body.length + 2) =
      leBytes 2 (crc16 (BitVec.ofNat 8 (r.body.length + 2) :: BitVec.ofNat 8 ((r.body.length + 2) / 256) :: r.kind ::
        r.tag :: r.body)).toNat ++ rest := by
    simp
  have hrest := congrArg (List.drop 2) hd
  rw [List.drop_drop, List.drop_left' (leBytes_length 2 _)] at hrest
  rw [ht, hd, List.take_left' (leBytes_length 2 _), if_neg (by simp [hcrc]), hrest]

end Sys2Proof.Machine
end

