-- ==== Sys2Proof/Laws/Fields.lean ====
section
/-! SUPPORT. What the coding of fields can do, said once: multi-byte fields, the values of a STAGE_WRITE, the written maps of a
PROFILE_QUERY, and the hunt of the control link, whose bound on turns is never used up. -/

namespace Sys2Proof.Machine

/-! ### Values -/

/-- A field of `k` bytes is the bytes of its number (00_scope 5.7). -/
theorem leBytes_leNat (xs : List Byte) : leBytes xs.length (leNat xs) = xs := by
  induction xs with
  | nil => rfl
  | cons b bs ih =>
    have hb := b.isLt
    have h1 : BitVec.ofNat 8 (b.toNat + 256 * leNat bs) = b := by
      apply BitVec.eq_of_toNat_eq
      rw [BitVec.toNat_ofNat]; omega
    have h2 : (b.toNat + 256 * leNat bs) / 256 = leNat bs := by omega
    simp only [List.length_cons, leBytes, leNat, h1, h2, ih]

/-- The bytes of a field give its number, and a number within the field's room its bytes (00_scope 5.7). -/
theorem leNat_eq_iff {k n : Nat} {xs : List Byte} (hk : xs.length = k) (hn : n < 256 ^ k) :
    leNat xs = n ↔ xs = leBytes k n := by
  constructor
  · rintro rfl; rw [← hk, leBytes_leNat]
  · rintro rfl; rw [leNat_leBytes, Nat.mod_eq_of_lt hn]

/-- A value of one byte. -/
theorem leNat_byte {xs : List Byte} (h : xs.length = 1) (b : Byte) : leNat xs = b.toNat ↔ xs = [b] := by
  obtain ⟨c, rfl⟩ := List.length_eq_one_iff.mp h
  simp [leNat, BitVec.toNat_inj]

/-- A source is decoded from its code and from no other byte (R183). -/
theorem decodeSource_iff (b : Byte) (k : Source) : decodeSource b.toNat = some k ↔ b = k.code := by
  cases k <;> revert b <;> decide +kernel

/-- The sources that a list of bytes codes (R183). -/
theorem decodeSources_iff (value : List Byte) (order : List Source) :
    value.mapM (fun b => decodeSource b.toNat) = some order ↔ value = order.map Source.code := by
  induction value generalizing order with
  | nil => cases order <;> simp
  | cons b bs ih =>
    cases order with
    | nil => simp [List.mapM_cons, Option.bind_eq_some_iff]
    | cons k ks => simp [List.mapM_cons, Option.bind_eq_some_iff, decodeSource_iff, ih]

/-- The codes of an order, source by source. -/
theorem orderCodes_eq (order : List Source) : orderCodes order = order.map Source.code := by
  unfold orderCodes
  exact List.map_congr_left fun k _ => by cases k <;> rfl

/-- A source order is decoded from the codes of one to three distinct sources, and from nothing else (R32, R183). -/
theorem decodeOrder_iff (value : List Byte) (order : List Source) :
    decodeOrder value = some order ↔ Within 1 3 order.length ∧ order.Nodup ∧ value = orderCodes order := by
  rw [orderCodes_eq, ← decodeSources_iff]
  unfold decodeOrder
  cases h : value.mapM (fun b => decodeSource b.toNat) with
  | none => simp
  | some o =>
    dsimp only
    split
    · rename_i hc
      constructor
      · rintro ⟨⟩; exact ⟨⟨hc.1, hc.2.1⟩, hc.2.2, rfl⟩
      · rintro ⟨_, _, e⟩; exact e
    · rename_i hc
      refine ⟨nofun, ?_⟩
      rintro ⟨hw, hn, ⟨⟩⟩
      exact absurd ⟨hw.1, hw.2, hn⟩ hc

/-- A number within a range is decoded when it lies in it. -/
theorem inRange_eq_some {lo hi n m : Nat} : inRange lo hi n = some m ↔ Within lo hi m ∧ n = m := by
  unfold inRange
  split
  · rename_i h
    simp only [Option.some.injEq]
    constructor
    · rintro rfl; exact ⟨h, rfl⟩
    · exact fun h => h.2
  · rename_i h
    refine ⟨nofun, ?_⟩
    rintro ⟨h', rfl⟩
    exact absurd h' h

/-- The byte of a PROFILE value is decoded from the slot it names, or 0xFF for NONE (R125, R183). -/
theorem decodeProfile_iff (b : Byte) (x : Option (Fin 8)) :
    decodeSetting 0 [b] = some (.profile x) ↔ [b] = encodeEnum? slotByte x := by
  revert x b; decide +kernel

/-- The byte of a REF_MODE value (R183). -/
theorem decodeRefMode_iff (b : Byte) (m : RefMode) : decodeRefMode (leNat [b]) = some m ↔ b = m.code := by
  cases m <;> revert b <;> decide +kernel

/-- The byte of a LOSS_ACTION value (R183). -/
theorem decodeLossAction_iff (b : Byte) (x : LossAction) : decodeLossAction (leNat [b]) = some x ↔ b = x.code := by
  cases x <;> revert b <;> decide +kernel

/-- A parameter number and a value of the right length make a setting exactly when they code it within its range (R125, R127,
R183). -/
theorem decodeSetting_iff {number : Nat} {value : List Byte} (h : ∀ len, settingLength number = some len → value.length = len)
    (v : Setting) : decodeSetting number value = some v ↔ v.CodedBy number value := by
  have field {k : Nat} (hk : settingLength number = some k) {n : Nat} (hn : n < 256 ^ k) :
      leNat value = n ↔ value = leBytes k n := leNat_eq_iff (h k hk) hn
  match number with
  | 0 =>
    obtain ⟨b, rfl⟩ := List.length_eq_one_iff.mp (h 1 rfl)
    have other (v : Setting) (hv : ∀ x, v ≠ .profile x) : decodeSetting 0 [b] ≠ some v := by
      show (if leNat [b] = 0xFF then some (Setting.profile none)
        else (index8 (leNat [b])).map fun i => Setting.profile (some i)) ≠ some v
      by_cases hb : leNat [b] = 0xFF
      · rw [if_pos hb]
        exact fun e => hv _ (Option.some.inj e).symm
      · rw [if_neg hb]
        simp only [ne_eq, Option.map_eq_some_iff, not_exists, not_and]
        exact fun i _ e => hv _ e.symm
    cases v with
    | profile x => rw [decodeProfile_iff]; cases x <;> simp [Setting.CodedBy, encodeEnum?, slotByte]
    | _ => simp [Setting.CodedBy, other]
  | 1 =>
    obtain ⟨b, rfl⟩ := List.length_eq_one_iff.mp (h 1 rfl)
    cases v with
    | refMode m => cases m <;> simp [decodeSetting, Setting.CodedBy, decodeRefMode_iff, RefMode.code]
    | _ => simp [decodeSetting, Setting.CodedBy]
  | 8 =>
    obtain ⟨b, rfl⟩ := List.length_eq_one_iff.mp (h 1 rfl)
    cases v with
    | lossAction x => cases x <;> simp [decodeSetting, Setting.CodedBy, decodeLossAction_iff, LossAction.code]
    | _ => simp [decodeSetting, Setting.CodedBy]
  | 2 | 6 | 7 | 9 =>
    cases v <;> simp only [decodeSetting, Setting.CodedBy, Option.map_eq_some_iff, inRange_eq_some] <;> simp
    have := @field _ rfl
    constructor
    · rintro ⟨hw, rfl⟩
      exact ⟨by omega, (this (by omega)).mp rfl⟩
    · rintro ⟨hw, e⟩
      have := (this (by omega)).mpr e
      omega
  | 3 | 4 | 5 => cases v <;> simp [decodeSetting, Setting.CodedBy, decodeOrder_iff]
  | n + 10 => cases v <;> simp [decodeSetting, Setting.CodedBy]
/-! ### Written maps -/

/-- The fields of a section in a PROFILE_QUERY reply are the number of its marks that are set and its lowest clear element
(R20). -/
theorem encodeSection_eq {b : Body} {k : Section5} {clear : Option Nat}
    (h : ∀ e, clear = some e ↔ (b.marks k)[e]? = some false ∧ ∀ j < e, (b.marks k)[j]? = some true) :
    encodeSection b k = leBytes 2 ((b.marks k).count true) ++ encodeOptional 2 clear := by
  have h1 : b.marksSet k = (b.marks k).count true := by
    simp [Body.marksSet, List.count_eq_length_filter]
  have h2 : b.lowestClear k = clear := by
    apply Option.ext
    intro e
    rw [h e, Body.lowestClear, List.findIdx?_eq_some_iff_getElem]
    constructor
    · rintro ⟨hl, he, hj⟩
      refine ⟨by rw [List.getElem?_eq_getElem hl]; simpa using he, fun j hj' => ?_⟩
      rw [List.getElem?_eq_getElem (by omega)]
      simpa using hj j hj'
    · rintro ⟨he, hj⟩
      obtain ⟨hl, he'⟩ := List.getElem?_eq_some_iff.mp he
      refine ⟨hl, by simpa using he', fun j hj' => ?_⟩
      have hm := hj j hj'
      rw [List.getElem?_eq_getElem (by omega)] at hm
      simpa using hm
  rw [encodeSection, h1, h2]

/-! ### The hunt of the control link -/

/-- What a received record leaves over is no longer than what was read. -/
theorem receiveRecord_rest {bytes rest : List Byte} {r : Record} (h : receiveRecord bytes = .good r rest) :
    rest.length ≤ bytes.length := by
  unfold receiveRecord at h
  split at h
  · dsimp only at h
    repeat' split at h
    all_goals first
      | cases h; done
      | (cases h; simp only [List.length_drop, List.length_cons]; omega)
  · cases h

/-- What a record passed over leaves is no longer than what was read. -/
theorem passRecord_rest {bytes rest : List Byte} (h : passRecord bytes = .passed rest) : rest.length ≤ bytes.length := by
  unfold passRecord at h
  split at h
  · dsimp only at h
    repeat' split at h
    all_goals first
      | cases h; done
      | (cases h; simp only [List.length_drop, List.length_cons]; omega)
  · cases h

/-- The hunt does not depend on its bound on turns, when that is above the number of bytes (R182, R187). -/
theorem hunt_eq_huntAll {n : Nat} {bytes : List Byte} (c : ControlLink) (h : bytes.length < n) :
    ControlLink.hunt n bytes c = ControlLink.huntAll bytes c := by
  have agree : ∀ (n m : Nat) (bytes : List Byte) (c : ControlLink), bytes.length < n → bytes.length < m →
      ControlLink.hunt n bytes c = ControlLink.hunt m bytes c := by
    intro n
    induction n with
    | zero => intro m bytes c h; omega
    | succ n ih =>
      intro m bytes c hn hm
      obtain ⟨m, rfl⟩ := Nat.exists_eq_succ_of_ne_zero (show m ≠ 0 by omega)
      cases bytes with
      | nil => rfl
      | cons b rest =>
        simp only [List.length_cons] at hn hm
        simp only [ControlLink.hunt, ControlLink.receive, ControlLink.pass]
        rw [ih m rest c (by omega) (by omega), ih m rest c.countCrc (by omega) (by omega),
          ih m rest c.countNotReady (by omega) (by omega)]
        have good : ∀ r left, receiveRecord rest = .good r left →
            ControlLink.hunt n left (c.enter r) = ControlLink.hunt m left (c.enter r) := fun r left hr =>
          have := receiveRecord_rest hr
          ih m left _ (by omega) (by omega)
        have passed : ∀ left, passRecord rest = .passed left →
            ControlLink.hunt n left c.countNotReady = ControlLink.hunt m left c.countNotReady := fun left hp =>
          have := passRecord_rest hp
          ih m left _ (by omega) (by omega)
        cases hr : receiveRecord rest with
        | good r left => 
          cases hp : passRecord rest with
          | passed left' => simp only [good r left hr, passed left' hp]
          | _ => simp only [good r left hr]
        | _ =>
          cases hp : passRecord rest with
          | passed left' => simp only [passed left' hp]
          | _ => rfl
  exact agree n _ bytes c h (Nat.lt_succ_self _)

end Sys2Proof.Machine
end

