-- ==== Sys2Proof/Laws/PerInstr.lean ====
section
/-! SUPPORT. For every command: the record that a well-formed request's command takes can have come over the control link, since
the bytes of that record are received as it (R181, R182). -/

namespace Sys2Proof.Laws

/-- The record of a well-formed request's command fits in a record, and its bytes are received as that record. -/
def RecordIsReceived.Statement (i : Instr) : Prop :=
  i.wf = true → ∀ r ∈ i.record?, r.body.length ≤ 1024 ∧
    Machine.receiveRecord (Machine.recordBytes r).tail = .good r []

namespace RecordIsReceived

open Machine

/-- A body that fits in a record makes a record that is received. -/
theorem of_fits {kind : Byte} {q : Request} (h : q.wf = true) :
    ∀ r ∈ some (⟨kind, q.tag, q.body⟩ : Record), r.body.length ≤ 1024 ∧
      receiveRecord (recordBytes r).tail = .good r [] := by
  rintro r hr
  obtain rfl : _ = r := Option.some.inj hr
  have hb : q.body.length ≤ 1024 := by simpa [Request.wf] using h
  exact ⟨hb, by simpa using receiveRecord_recordBytes ⟨kind, q.tag, q.body⟩ [] hb⟩

/-- A command that takes no record has nothing to receive. -/
theorem of_none {i : Instr} (h : i.record? = none) : RecordIsReceived.Statement i := by
  intro _ r hr
  rw [h] at hr
  cases hr

theorem identify (q : Request) : Statement (.identify q) := fun h => of_fits h
theorem status (q : Request) : Statement (.status q) := fun h => of_fits h
theorem subscribe (q : Request) : Statement (.subscribe q) := fun h => of_fits h
theorem restartStream (q : Request) : Statement (.restartStream q) := fun h => of_fits ((Bool.and_eq_true _ _).mp h).1
theorem restartWarm (q : Request) : Statement (.restartWarm q) := fun h => of_fits ((Bool.and_eq_true _ _).mp h).1
theorem restartCold (q : Request) : Statement (.restartCold q) := fun h => of_fits ((Bool.and_eq_true _ _).mp h).1
theorem profileOpen (q : Request) : Statement (.profileOpen q) := fun h => of_fits h
theorem profileWrite (q : Request) : Statement (.profileWrite q) := fun h => of_fits h
theorem profileClose (q : Request) : Statement (.profileClose q) := fun h => of_fits h
theorem profileDiscard (q : Request) : Statement (.profileDiscard q) := fun h => of_fits h
theorem profileQuery (q : Request) : Statement (.profileQuery q) := fun h => of_fits h
theorem streamConfigure (q : Request) : Statement (.streamConfigure q) := fun h => of_fits h
theorem streamStart (q : Request) : Statement (.streamStart q) := fun h => of_fits h
theorem streamStop (q : Request) : Statement (.streamStop q) := fun h => of_fits h
theorem streamRead (q : Request) : Statement (.streamRead q) := fun h => of_fits h
theorem stageWrite (q : Request) : Statement (.stageWrite q) := fun h => of_fits h
theorem stageApply (q : Request) : Statement (.stageApply q) := fun h => of_fits h
theorem stageCancel (q : Request) : Statement (.stageCancel q) := fun h => of_fits h
theorem stageRead (q : Request) : Statement (.stageRead q) := fun h => of_fits h
theorem framingCapture (q : Request) : Statement (.framingCapture q) := fun h => of_fits h
theorem rampContinue (q : Request) : Statement (.rampContinue q) := fun h => of_fits ((Bool.and_eq_true _ _).mp h).1
theorem rampRestart (q : Request) : Statement (.rampRestart q) := fun h => of_fits ((Bool.and_eq_true _ _).mp h).1
theorem rampNow (q : Request) : Statement (.rampNow q) := fun h => of_fits ((Bool.and_eq_true _ _).mp h).1
theorem rampHalt (q : Request) : Statement (.rampHalt q) := fun h => of_fits ((Bool.and_eq_true _ _).mp h).1
theorem watchSet (q : Request) : Statement (.watchSet q) := fun h => of_fits h
theorem watchClear (q : Request) : Statement (.watchClear q) := fun h => of_fits h
theorem watchRead (q : Request) : Statement (.watchRead q) := fun h => of_fits h
theorem faultRead (q : Request) : Statement (.faultRead q) := fun h => of_fits h
theorem sample (q : Request) : Statement (.sample q) := fun h => of_fits h
theorem unknownKind (kind : Byte) (q : Request) : Statement (.unknownKind kind q) := fun h => of_fits ((Bool.and_eq_true _ _).mp h).1
theorem controlRecordArrival (bytes : List Byte) : Statement (.controlRecordArrival bytes) := of_none rfl
theorem notReadyRecord (bytes : List Byte) : Statement (.notReadyRecord bytes) := of_none rfl
theorem lensRecordArrival (bytes : List Byte) : Statement (.lensRecordArrival bytes) := of_none rfl
theorem frameHeader (h : FrameHeader) : Statement (.frameHeader h) := of_none rfl
theorem rampComplete (h : FrameHeader) : Statement (.rampComplete h) := of_none rfl
theorem inputRow (row : Row) : Statement (.inputRow row) := of_none rfl
theorem frameEnd : Statement (.frameEnd) := of_none rfl
theorem sendReply : Statement (.sendReply) := of_none rfl
theorem sendNotice : Statement (.sendNotice) := of_none rfl
theorem sendEnd : Statement (.sendEnd) := of_none rfl
theorem powerOn : Statement (.powerOn) := of_none rfl
theorem powerLoss : Statement (.powerLoss) := of_none rfl
theorem resetLineAssert : Statement (.resetLineAssert) := of_none rfl
theorem resetLineRelease : Statement (.resetLineRelease) := of_none rfl
theorem resetEnd : Statement (.resetEnd) := of_none rfl

end RecordIsReceived

end Sys2Proof.Laws
end

