-- ==== Sys2Proof/Laws/Pixels.lean ====
section
/-! SUPPORT. What the operations of the band planner and the pixel path touch, and what they leave alone. -/

namespace Sys2Proof.Machine

/-! ### The emission of a row -/

/-- The output header of a frame in progress leaves once (R121). -/
theorem emitHeader_eq {s : State} {f : Frame} (h : s.pixel.frame = some f) :
    s.emitHeader =
      { s with
        pixel := { s.pixel with frame := some { f with headerSent := true } }
        outputs :=
          { s.outputs with video := s.outputs.video ++ (if f.headerSent then [] else [.header f.header]) } } := by
  rcases s with ⟨_, _, _, _, _, _, _, _, _, _, _, _, ⟨_, _, _, frame, _, _, _⟩, _, _, _, _, _⟩
  obtain rfl : frame = some f := h
  rcases f with ⟨header, sent, report⟩
  cases sent <;> simp [State.emitHeader, State.emit, State.setPixel, State.setOutputs]

/-- The pixels that an output row is made of, each with its number of saturated colours (R109 step 3, R118 to R120). -/
def rowPixels (s : State) (c : StreamConfig) (y : Nat) : List (Pixel × Nat) :=
  outputPixels c (rowPlan c s.planner.queue y).1 (rowPlan c s.planner.queue y).2 s.pixel.lineStore y

/-- The emission of an output row: the header before it if that has not left, the row, its count in the report, and the plan
that it was the last row of (R64, R109, R121, R173). -/
theorem emitRow_eq {s : State} {f : Frame} (c : StreamConfig) (y : Nat) (h : s.pixel.frame = some f) :
    s.emitRow c y =
      { s with
        pixel :=
          { s.pixel with
            frame := some
              ⟨f.header, true, f.report.addRow ((rowPixels s c y).map Prod.snd).sum⟩ }
        planner := { s.planner with queue := queueAfterRow c s.planner.queue y }
        outputs :=
          { s.outputs with
            video := s.outputs.video ++ (if f.headerSent then [] else [.header f.header])
              ++ [.row ((rowPixels s c y).map Prod.fst)] } } := by
  simp [State.emitRow, emitHeader_eq h, State.emit, State.setPixel, State.setPlanner, State.setOutputs,
    PixelPath.mapReport, rowPixels]

/-- An output row has the width of the stream (R118). -/
@[simp] theorem rowPixels_length (s : State) (c : StreamConfig) (y : Nat) : (rowPixels s c y).length = c.width := by
  simp [rowPixels, outputPixels]

/-- A fitted row has the width of the stream (R109). -/
theorem fitRow_length (width : Nat) (row : Row) : (fitRow width row).length = width := by
  simp [fitRow]; omega

/-! ### The making of a plan -/

/-- A lens evaluation writes the tracks and may set the SOURCE flag, and nothing else (R39, R50). -/
theorem evaluate_eq (s : State) (t : Nat) :
    s.evaluate t =
      { s with
        tracks := evaluated s t
        notices :=
          { s.notices with source := s.notices.source || (evaluated s t).toList.any Track.changedSource } } := rfl

/-- A capture that is owed writes REF_MAG, sets the FRAMING flag and is no longer owed, and nothing else (R67). -/
theorem takeCapture_eq (s : State) (m : Nat) :
    s.takeCapture m =
      if s.planner.captureOwed then
        { s with
          settings := s.settings.capture m
          planner := { s.planner with captureOwed := false }
          notices := { s.notices with framing := true } }
      else s := by
  unfold State.takeCapture
  split <;> rfl

/-- The making of a plan leaves every block alone but the settings, capture-owed and the FRAMING flag (R58, R67). -/
theorem makePlan_leaves (s : State) (d : PlanId) (sMax : Nat) :
    { (s.makePlan d sMax).2 with settings := s.settings, planner := s.planner, notices := s.notices } = s ∧
    (s.makePlan d sMax).2.planner.queue = s.planner.queue ∧ (s.makePlan d sMax).1.band = d.band ∧
    (s.makePlan d sMax).1.frameNumber = d.frameNumber ∧ (s.makePlan d sMax).1.kb = s.ramps.kb ∧
    (s.makePlan d sMax).1.kv = s.ramps.kv := by
  unfold State.makePlan
  split
  · split
    · rw [takeCapture_eq]
      split <;> simp [correctedPlan]
    · simp [neutralPlan]
  · simp [neutralPlan]

/-- The planning of a band adds its plan to the queue and leaves the links, the intake, the ramps, the fault record, the port
and the resets alone (R58). -/
theorem planBand_leaves (s : State) (c : StreamConfig) (h : FrameHeader) (b : Nat) :
    { s.planBand c h b with
      tracks := s.tracks, slots := s.slots, settings := s.settings, planner := s.planner, pixel := s.pixel
      watches := s.watches, notices := s.notices } = s := by
  have hu : { s.bandApply.evaluate (bandTime c h b) with
      tracks := s.tracks, slots := s.slots, settings := s.settings, notices := s.notices } = s := by
    unfold State.bandApply
    split <;> rfl
  have hm := (makePlan_leaves (s.bandApply.evaluate (bandTime c h b)) ⟨h.frameNumber.toNat, b, bandTime c h b⟩ c.sMax).1
  unfold State.planBand State.offerToWatches State.enqueue State.setWatches State.setPixel State.setPlanner
  dsimp only
  generalize s.bandApply.evaluate (bandTime c h b) = u at hu hm ⊢
  generalize u.makePlan _ _ = made at hm ⊢
  obtain ⟨p, t⟩ := made
  dsimp only at hm ⊢
  rw [← hu, ← hm]

end Sys2Proof.Machine
end

