-- ==== Sys2Proof/Tests/Slice0.lean ====
section
/-! SUPPORT. Tests. First the smoke tests of well-formedness and figures of the manual's own worked examples, each test naming
the section it takes its figures from; then, for every statement that has hypotheses, a state and operands that meet them, with
the clauses at values of their bounds. -/

namespace Sys2Proof.Tests

open Machine

/-! ### Small states -/

/-- The part once RESTARTED has been sent: ready is asserted. -/
def operating : State :=
  { State.reset with
    control := { ControlLink.initial with ready := true }
    notices := { State.reset.notices with restarted := false } }

/-- A request with tag 7. -/
def ask (body : List Byte) : Request := ⟨7, body⟩

/-- The state with one request in the inbound buffer. -/
def asking (s : State) (kind : Byte) (body : List Byte) : State :=
  { s with control := { s.control with inbound := [⟨kind, 7, body⟩] } }

/-- The state after a command. -/
def after (c : Instr) (s : State) : State :=
  match exec c s with
  | .next t => t
  | .fault _ => s
  | .refused _ => s

/-- The body of the newest reply. -/
def answerOf (s : State) : List Byte := ((s.control.replies.getLast?).map (·.body)).getD []

/-- The part takes the request. -/
abbrev Asked (s : State) (kind : Byte) (body : List Byte) : Prop :=
  (asking s kind body).takes ⟨kind, (ask body).tag, (ask body).body⟩ = true

/-- The command takes the record from the state, as the statements on taking ask. -/
abbrev Taken (c : Instr) (r : Record) (s : State) : Prop := c.wf = true ∧ c.record? = some r ∧ s.takes r = true

/-- 64 × 64 pixels in 8 bands, never enlarged (7.2, the last row of its figures). -/
def config64 : StreamConfig := ⟨64, 64, 8, 65536, 63, 63, 32, 32, 8, 8, 2, 0, 4, 512⟩

/-- The header of frame 7. -/
def header7 : FrameHeader := ⟨7, 1000, 0, 64, 64⟩

/-- The stream is configured and WAITING. -/
def waiting : State :=
  { operating with pixel := { PixelPath.initial with stream := .waiting, config := some config64 } }

/-- The neutral plan of a band at strength 0. -/
def planOf (b : Nat) : Plan := neutralPlan ⟨7, b, 1000⟩ State.reset none ⟨false, false, false⟩

/-- Frame 7 in progress when `n` rows have arrived. -/
def frameAt (n : Nat) : State :=
  { operating with
    pixel :=
      { stream := .inFrame, config := some config64
        lineStore := (heldIndices config64 n).map fun r => (r, List.replicate 64 ⟨0, 1, 2⟩)
        frame := some ⟨header7, decide (2 < n),
          { FrameReport.initial 7 with rowsReceived := n, rowsEmitted := n - 2, bandsPlanned := (n + 7) / 8 }⟩
        lastFrame := some 7, skip := false, orphan := false }
    planner :=
      ⟨((List.range ((n + 7) / 8)).filter fun b => decide (n - 2 < (b + 1) * 8)).map planOf, some (planOf ((n - 1) / 8)), false⟩
    outputs := ⟨if 2 < n then .header header7 :: List.replicate (n - 2) (.row []) else [], []⟩ }

/-- A finished profile of geometry 2/1/1. -/
def small : Profile :=
  ⟨⟨2, 1, 1⟩, .low, [], 280, false,
   ⟨[some 1000, some 2000], [some 0], [some 0], [some 16384, some 65535],
    [some (List.replicate 51 2048), some (List.replicate 51 65535)]⟩⟩

/-- The small profile IN_USE in slot 0, with focus known. -/
def corrected : State :=
  { operating with
    slots := (Eight.all .empty).set 0 (.live .inUse small)
    settings :=
      { Settings.initial with
        active := { Params.default with profile := some 0 }, staged := { Params.default with profile := some 0 } }
    tracks := ⟨⟨some .mount, .fresh, some 1500, none, .none⟩, Track.initial, Track.initial⟩ }

/-! ### Well-formedness refuses what no record carries -/

theorem test_wf_refuses_long_body : (Instr.status ⟨0, List.replicate 1025 0⟩).wf = false := by decide +kernel
theorem test_wf_admits_longest_body : (Instr.status ⟨0, List.replicate 1024 0⟩).wf = true := by decide +kernel
theorem test_wf_refuses_other_level :
    (Instr.restartStream (ask [1])).wf = false ∧ (Instr.restartWarm (ask [2])).wf = false ∧
    (Instr.restartCold (ask [0])).wf = false := by decide
theorem test_wf_refuses_other_form :
    (Instr.rampContinue (ask [0, 1, 0, 0, 0, 0])).wf = false ∧ (Instr.rampRestart (ask [0, 2, 0, 0, 0, 0])).wf = false ∧
    (Instr.rampNow (ask [0, 3, 0, 0, 0, 0])).wf = false ∧ (Instr.rampHalt (ask [0, 0, 0, 0, 0, 0])).wf = false := by
  decide
theorem test_wf_refuses_known_kind : (Instr.unknownKind 0x20 (ask [])).wf = false := by decide
theorem test_no_word_spells_a_command (nbits w : Nat) : decodeTableWord nbits w = none := rfl

/-! ### Figures of the manual -/

/-- The size figures of 1.2. -/
theorem test_profile_sizes :
    Geometry.size ⟨2, 1, 1⟩ = 280 ∧ Geometry.size ⟨16, 4, 8⟩ = 52472 ∧ Geometry.size ⟨16, 5, 8⟩ = 65562 ∧
    Geometry.size ⟨16, 8, 8⟩ = 104832 ∧ Geometry.isPair ⟨16, 4, 8⟩ = false ∧ Geometry.isPair ⟨16, 5, 8⟩ = true := by
  decide

/-- The worked allocation of chapter 1: a pair goes to slot 2 when slot 0 is OPEN, and a single profile then to slot 1. -/
theorem test_allocation :
    let first := (Eight.all Slot.empty).set 0 (.live .opened small)
    choosePair first = some 2 ∧ chooseSingle (openSlot first 2 { small with pair := true }) = some 1 := by decide

/-- The extrapolation figures of 3.3. -/
theorem test_coasting_values :
    judgeSource 10000 250000 56000 [(50000, 40000), (54000, 40600)] = some (.coasting, 40900) ∧
    judgeSource 10000 250000 54500 [(50000, 40000), (53000, 40001)] = some (.coasting, 40002) ∧
    judgeSource 10000 250000 54500 [(50000, 40001), (53000, 40000)] = some (.coasting, 40000) ∧
    judgeSource 10000 250000 63000 [(60000, 64000), (61000, 65000)] = some (.coasting, 65535) ∧
    judgeSource 10000 250000 65000 [(50000, 40000), (54000, 40600)] = some (.holding, 40600) := by decide

/-- Steps 1 and 7 of the worked evaluation of 3.11. -/
theorem test_fresh_values :
    judgeSource 8000 40000 106000 [(100000, 30000), (104000, 30400), (108000, 30800)] = some (.fresh, 30600) ∧
    judgeSource 8000 40000 157000 [(104000, 30400), (108000, 30800), (158000, 35800)] = some (.fresh, 35700) ∧
    judgeSource 8000 40000 149000 [(104000, 30400), (108000, 30800)] = none := by decide

/-- The band geometry and the band time figures of 4.1 and 4.2. -/
theorem test_band_times :
    let c16 : StreamConfig := { config64 with height := 2160, bands := 16, hb := 135, bandCount := 16 }
    let c17 : StreamConfig := { config64 with height := 2160, bands := 17, hb := 128, bandCount := 17 }
    let h : FrameHeader := ⟨0, 5000000, 7400, 64, 2160⟩
    bandTime c16 h 0 = 5000495 ∧ bandTime c16 h 12 = 5012483 ∧ bandTime c17 h 16 = 5015565 ∧ c17.bandRows 16 = 112 := by
  decide

/-- The grid position figures of 5.1. -/
theorem test_grid_positions :
    gridPosition [4000, 20000, 60000] 2000 = ⟨0, 0, false⟩ ∧ gridPosition [4000, 20000, 60000] 19999 = ⟨0, 65531, true⟩ ∧
    gridPosition [4000, 20000, 60000] 20000 = ⟨1, 0, true⟩ ∧ gridPosition [4000, 20000, 60000] 60000 = ⟨1, 65536, true⟩ ∧
    gridPosition [4000, 20000, 60000] 65000 = ⟨1, 65536, false⟩ := by decide

/-- The worked magnification and references of 5.2 and 5.3. -/
theorem test_magnification :
    let p : Profile := { small with
      geometry := ⟨3, 2, 1⟩, infinity := .high
      body := { small.body with
        focusNodes := [some 4000, some 20000, some 60000], zoomNodes := [some 10000, some 50000]
        magnification := [some 34734, some 33751, some 32768, some 36044, some 34406, some 33096] } }
    let g := gridPositions p ⟨30000, 20000, 0⟩
    p.magnification g = 33649 ∧ p.reference g.zoom .tightest 32768 = 35062 ∧ p.reference g.zoom .infinity 32768 = 32850 ∧
    rawScale 35062 33649 = 68288 ∧ rawScale 32850 33649 = 63980 := by decide

/-- The worked scales and strengths of 5.4 and 5.5. -/
theorem test_scales :
    rawScale 34734 33260 = 68440 ∧ clampScale 68000 68440 = 68000 ∧ clampScale 73728 64610 = 65536 ∧
    effectiveScale 67445 128 = 66491 ∧ effectiveScale 67445 256 = 67445 ∧ effectiveScale 67445 0 = 65536 := by decide

/-- The worked blend, strengths and gains of chapter 6: green knots 4, 5, 7 and 8. -/
theorem test_shading :
    blendSets 32768 (blendSets 16384 [4400, 4600, 5000, 5300] [4802, 5000, 5600, 6000])
      (blendSets 16384 [4411, 4662, 5100, 5401] [4811, 5062, 5701, 6100]) = [4506, 4731, 5200, 5526] ∧
    effectiveKnots 128 [4506, 4731, 5200, 5526] = [4301, 4414, 4648, 4811] ∧ effectiveKnots 128 [3001] = [3549] ∧
    gainAt (List.replicate 24 0 ++ [5200, 5526]) 1 32116 = 5474 := by decide

/-- The radius figures of 6.5. -/
theorem test_radius_codes :
    radiusCode 2048 1080 (-128) (-128) = 0 ∧ radiusCode 2048 1080 524160 (-128) = 65504 ∧
    radiusCode 2048 1080 (-524160) (-276352) = 65536 ∧ radiusCode 2048 1080 240392 (-146254) = 32116 := by decide

/-- The worked output pixel of 7.7. -/
theorem test_output_pixel :
    sourcePosition 4095 66476 3000 = 764552 ∧ sourcePosition 2159 66476 500 = 130098 ∧
    sourcePosition 4095 66476 4095 = 1040908 ∧ bilinear 136 50 20000 20400 20100 20600 = 20242 ∧
    applyGain 20242 5474 = ⟨27052, false⟩ ∧ applyGain 20242 16000 = ⟨65535, true⟩ := by decide

/-- Three rows of the configuration figures of 7.2. -/
theorem test_configuration :
    let f (w h cx2 cy2 sMax : Nat) := (ConfigureFields.mk w h 8 sMax 0 cx2 cy2 1 1).configuration
    (f 4096 2160 4095 2159 73728).lag = 121 ∧ (f 4096 2160 4095 2159 73728).depth = 242 ∧
    (f 4096 3072 4095 1000 73728).lag = 57 ∧ (f 4096 3072 4095 1000 73728).lead = 285 ∧
    (f 4096 3072 4095 1000 73728).capacity = 256 ∧ (f 64 64 63 63 81920).depth = 16 ∧
    (f 64 64 63 63 81920).capacity = 512 := by decide

/-- The worked rack-in of 9.8: SHADING at the headers of frames 5 and 6, and the effective strengths of frames 4 and 6. -/
theorem test_ramps :
    (Ramp.atHeader ⟨192, 256, 0, 4, 3, true, some ⟨.continue, 200, 2⟩⟩) = (⟨256, 200, 256, 2, 0, true, none⟩, true) ∧
    (Ramp.atHeader ⟨256, 200, 256, 2, 0, true, none⟩) = (⟨228, 200, 256, 2, 1, true, none⟩, false) ∧
    effectiveStrength 192 192 = 144 ∧ effectiveStrength 228 192 = 171 ∧ fadeAtHeader .fade 4 true 256 = 192 ∧
    fadeAtHeader .fade 4 false 192 = 256 := by decide

/-- The CRC of R181 on the nine characters 1 to 9, whose value for this generator and start is commonly published:
29B1 hexadecimal. -/
theorem test_crc : crc16 [0x31, 0x32, 0x33, 0x34, 0x35, 0x36, 0x37, 0x38, 0x39] = 0x29B1 := by
  decide +kernel

/-- Steps 1 to 4 of the worked faults of 11.2, from the last row of frame 7 on: one row too many, then another. -/
theorem test_input_long :
    (after (.inputRow []) (frameAt 64)).faults = some ⟨.inputLong, some 7, some 64, 0⟩ ∧
    (after (.inputRow []) (after (.inputRow []) (frameAt 64))).faults = some ⟨.inputLong, some 7, some 64, 0⟩ := by
  decide +kernel

/-- Steps 2 to 4 of the worked watches of 10.8: watch 5 trips when focus leaves its zone and watch 2 when focus is LOST. -/
theorem test_watches :
    let live (v : Nat) (live : Bool) : Plan :=
      { planOf 0 with
        axes := { (planOf 0).axes with focus := { (planOf 0).axes.focus with value := some v } }
        conditions := { (planOf 0).conditions with focusLive := live } }
    let w2 : Watch := ⟨0x102, 0x002, 0, 65535, 2, .conform, false, false⟩
    let w5 : Watch := ⟨0x1000, 0x1000, 20000, 40000, 0, .conform, false, false⟩
    w5.evaluate (live 41000 true) = { w5 with baseline := .nonconform, tripped := true } ∧
    w2.evaluate (live 41000 true) = w2 ∧
    w2.evaluate (live 41000 false) = { w2 with baseline := .nonconform, tripped := true, owed := true } := by
  decide

/-- A STATUS request crosses the control link: its bytes arrive, it is taken, and its reply is sent (12.4). -/
theorem test_request_and_reply :
    let arrived := after (.controlRecordArrival (recordBytes ⟨0x02, 9, []⟩)) operating
    let answered := after (.status ⟨9, []⟩) arrived
    arrived.control.inbound = [⟨0x02, 9, []⟩] ∧ answered.control.inbound = [] ∧
    answered.control.replies.map (fun r => (r.kind, r.tag)) = [(0x82, 9)] ∧
    (after .sendEnd (after .sendReply answered)).control.replies = [] := by decide +kernel

/-! ### Witnesses: taking -/

theorem witness_StepRunsFrontCommand :
    ({ State.reset with pending := [.sendNotice, .sendEnd] } : State).pending = .sendNotice :: [.sendEnd] := rfl

theorem witness_EveryCommandGoesOn : State.reset.pending = [] := rfl

theorem witness_TakenRequestIsAnsweredOnce :
    Taken (.restartWarm (ask [1])) ⟨4, 7, [1]⟩ (asking operating 4 [1]) ∧
    Taken (.restartCold (ask [2])) ⟨4, 7, [2]⟩ (asking operating 4 [2]) ∧
    Taken (.identify (ask [])) ⟨1, 7, []⟩ (asking operating 1 []) ∧
    Taken (.unknownKind 0x18 (ask [])) ⟨0x18, 7, []⟩ (asking operating 0x18 []) := by decide

theorem witness_UntakenRequestWaits :
    (Instr.identify (ask [])).record? = some ⟨1, 7, []⟩ ∧ operating.takes ⟨1, 7, []⟩ = false ∧
    (asking { operating with powered := false } 1 []).takes ⟨1, 7, []⟩ = false ∧
    (asking { operating with resetRun := some ⟨.warmRequest, 3⟩ } 1 []).takes ⟨1, 7, []⟩ = false ∧
    (asking { operating with control := { operating.control with replies := List.replicate 16 ⟨0x81, 0, []⟩ } } 1
      []).takes ⟨1, 7, []⟩ = false := by decide

theorem witness_WrongLengthIsAnswered :
    Taken (.identify (ask [0])) ⟨1, 7, [0]⟩ (asking operating 1 [0]) ∧ (requestLength 1).isSome = true ∧
    lengthAgrees 1 1 = false ∧ Taken (.profileOpen (ask [2, 1, 1, 0])) ⟨5, 7, [2, 1, 1, 0]⟩ (asking operating 5 [2, 1, 1, 0]) ∧
    (requestLength 5).isSome = true ∧ lengthAgrees 5 4 = false := by decide

theorem witness_RefusedRequestChangesNothing :
    ∃ reply t, Taken (.profileClose (ask [8])) ⟨7, 7, [8]⟩ (asking operating 7 [8]) ∧
      exec (.profileClose (ask [8])) (asking operating 7 [8]) = .next t ∧
      t.control.replies = (asking operating 7 [8]).control.replies ++ [reply] ∧ reply.body.head? ≠ some 0 ∧
      ¬ ((7 : Byte) = 0x20 ∧ reply.body.head? = some 9) :=
  ⟨⟨0x87, 7, [3]⟩, _, by decide, rfl, by decide, by decide, by decide⟩

theorem witness_UnknownKindIsAnswered :
    ∀ kind ∈ [(0 : Byte), 0x18, 0x1F, 0x21, 0xFF],
      ¬ (1 ≤ kind.toNat ∧ kind.toNat ≤ 0x17) ∧ kind ≠ 0x20 ∧ Asked operating kind [] := by decide

/-! ### Witnesses: links -/

theorem witness_GoodRecordEntersBuffer :
    (List.replicate 1024 (0 : Byte)).length ≤ 1024 ∧ operating.powered = true ∧
    operating.control.receiver = .hunting ∧ operating.control.ready = true := by decide +kernel

theorem witness_BadRecordIsCounted :
    (startByte ∉ ([1, 0] : List Byte) ∧ leNat [1, 0] < 2) ∧ (startByte ∉ ([3, 4] : List Byte) ∧ 1026 < leNat [3, 4]) ∧
    (∀ rest ∈ [([1, 1, 0, 0] : List Byte), startByte :: 1 :: 0 :: startByte :: (recordBytes ⟨0x02, 9, []⟩).tail],
      leNat [2, 0] + 2 ≤ rest.length ∧
      (crc16 (2 :: 0 :: rest.take (leNat [2, 0]))).toNat ≠ leNat ((rest.drop (leNat [2, 0])).take 2)) ∧
    operating.powered = true ∧ operating.control.receiver = .hunting ∧ operating.control.ready = true ∧
    operating.running = true ∧ operating.lens.receiver = .hunting := by decide +kernel

/-- A good record among the bytes of a failed one is received (R182). -/
theorem test_record_within_failed_record :
    let t := after (.controlRecordArrival (startByte :: 1 :: 0 :: recordBytes ⟨0x02, 9, []⟩)) operating
    t.control.crcFailures = 1 ∧ t.control.inbound = [⟨0x02, 9, []⟩] := by decide +kernel

theorem witness_NotReadyRecordIsCounted :
    ([] : List Byte).length ≤ 1024 ∧ State.reset.powered = true ∧ State.reset.control.receiver = .hunting ∧
    State.reset.control.ready = false ∧
    (∀ l ∈ [([2, 0] : List Byte), [2, 4]], Within 2 1026 (leNat l)) ∧
    ([1, 1, 0, 0] : List Byte).length = leNat [2, 0] + 2 ∧
    (crc16 (2 :: 0 :: ([1, 1] : List Byte))).toNat ≠ leNat [0, 0] ∧ (List.replicate 1028 (0 : Byte)).length = leNat [2, 4] + 2 ∧
    (∀ l ∈ [([1, 0] : List Byte), [3, 4]], ¬ Within 2 1026 (leNat l) ∧ startByte ∉ l) := by decide +kernel

/-- A record passed over with a wrong CRC is counted once, and so is each start byte that a bad length follows (R187). -/
theorem test_not_ready_records :
    (after (.notReadyRecord [startByte, 2, 0, 1, 1, 0, 0]) State.reset).control.notReady = 1 ∧
    (after (.notReadyRecord [startByte, 1, 0, startByte, 2, 0, 1, 1, 0, 0]) State.reset).control.notReady = 2 ∧
    (after (.notReadyRecord [startByte, 1, 0, startByte, 2, 0, 1, 1, 0, 0]) State.reset).control.crcFailures = 0 := by
  decide +kernel

theorem witness_BytesArriveInAnySplit :
    (∃ t, exec (.controlRecordArrival [startByte, 2]) operating = .next t) ∧
    ∃ t, exec (.lensRecordArrival [startByte, 2]) operating = .next t := ⟨⟨_, rfl⟩, ⟨_, rfl⟩⟩

/-- The states from which the statements on invariants step: a request waits, and a row arrives in a frame. -/
def steps : List State :=
  [{ asking corrected 8 [0] with pending := [.profileDiscard (ask [0])] },
   { frameAt 63 with pending := [.inputRow []] }]

/-- Each of those states steps on. -/
theorem steps_go_on : ∀ s ∈ steps, ∃ t, step s = .next t := by
  intro s h
  fin_cases h <;> exact ⟨_, rfl⟩

theorem witness_LinkInvariantKept :
    (∀ s ∈ steps, s.LinkInv ∧ s.CountInv) ∧ ∀ s ∈ steps, ∃ t, step s = .next t := ⟨by decide +kernel, steps_go_on⟩

theorem witness_RepliesAreSentInOrder :
    let s : State := { operating with control := { operating.control with replies := [⟨0x81, 7, []⟩] } }
    (s.running = true ∧ s.control.sending = none ∧ s.control.replies = ⟨0x81, 7, []⟩ :: []) ∧
    ((after .sendReply s).running = true ∧ (after .sendReply s).control.sending = some (.reply ⟨0x81, 7, []⟩)) ∧
    (after .sendNotice State.reset).running = true ∧
    ((after .sendNotice State.reset).control.sending = some (.notice ⟨0x40, 0, [0, 0, 0]⟩)) := by decide

theorem witness_SentNoticeClearsItsFlag :
    State.reset.running = true ∧ State.reset.control.sending = none ∧ State.reset.control.replies = [] ∧
    State.reset.offered = some .restarted := by decide

theorem witness_SentNoticeClearsItsFlag_fields :
    let s : State := { frameAt 64 with control := { operating.control with subscriptions := 0x80 } }
    (after (.inputRow []) s).faults.isSome = true ∧ s.faults = none ∧ (after .frameEnd s).notices.retained.isSome = true := by
  decide +kernel

theorem witness_OfferHasHighestPriority :
    operating.offered = none ∧ State.reset.offered = some .restarted ∧ State.reset.eligible .restarted = true := by decide

/-- The sample that a body carries, by the layout of 12.3: focus and iris present, and zoom alone. -/
theorem test_wire_sample :
    wireSample [0, 5, 1, 0, 2, 0, 0, 3, 0x10, 0x27, 4, 1] =
      ⟨1 + 2 * 65536 + 3 * 1099511627776, ⟨some 10000, none, some 260⟩⟩ ∧
    sampleOf (sampleFields [0, 5, 1, 0, 2, 0, 0, 3, 0x10, 0x27, 4, 1]) =
      wireSample [0, 5, 1, 0, 2, 0, 0, 3, 0x10, 0x27, 4, 1] ∧
    (sampleOf (sampleFields [1, 2, 0, 0, 0, 0, 0, 0, 7, 1])).codes = ⟨none, some 263, none⟩ := by decide

theorem witness_LensRecordIsJudged :
    let body : List Byte := [0, 7, 16, 0, 0, 0, 0, 0, 1, 2, 3, 4, 5, 6]
    let heard (t : Nat) : State :=
      { operating with intake := { Intake.initial with histories := ⟨[⟨t, ⟨some 1, none, none⟩⟩], [], []⟩ } }
    (8 ≤ body.length ∧ fieldAt body 0 1 = 0 ∧ 1 ≤ fieldAt body 1 1 ∧ fieldAt body 1 1 ≤ 7 ∧
      body.length = 8 + 2 * axesNamed body) ∧
    (∀ y ∈ ((heard 15).intake.histories.get .mount).getLast?, y.time < fieldAt body 2 6) ∧
    (∀ y ∈ ((heard 16).intake.histories.get .mount).getLast?, fieldAt body 2 6 ≤ y.time) ∧
    (heard 16).running = true ∧ (heard 16).lens.receiver = .hunting ∧ 2 ≤ fieldAt (2 :: body.tail) 0 1 ∧
    fieldAt [0, 0] 1 1 = 0 ∧ 8 ≤ fieldAt [0, 8] 1 1 := by decide

theorem witness_ReportsChangeNothing :
    (∀ kind ∈ [(1 : Byte), 2, 0x0D, 0x11, 0x16], Asked operating kind []) ∧
    (Asked operating 9 [7] ∧ (7 : Byte).toNat = (7 : Fin 8).val) ∧ Asked operating 9 [8] ∧ 8 ≤ (8 : Byte).toNat := by
  decide

theorem witness_ReportsChangeNothing_fields :
    (∀ e, some 0 = some e ↔ ((newProfile ⟨2, 1, 1⟩ .low []).body.marks .focusNodes)[e]? = some false ∧
      ∀ j < e, ((newProfile ⟨2, 1, 1⟩ .low []).body.marks .focusNodes)[j]? = some true) ∧
    (∀ i : Fin 8, (0 : Byte).getLsbD i = (operating.watches.get i).tripped) ∧ operating.slots.get 0 = .empty ∧
    corrected.slots.get 0 = .live .inUse small := by
  refine ⟨fun e => ⟨?_, ?_⟩, by decide, by decide, by decide⟩
  · rintro ⟨⟩
    exact ⟨by decide, nofun⟩
  · rintro ⟨_, h⟩
    cases e with
    | zero => rfl
    | succ e => exact absurd (h 0 (Nat.succ_pos e)) (by decide)

theorem witness_SubscribeReplacesTheSet :
    (Asked operating 3 [0, 1] ∧ (1 : Byte) ≠ 0) ∧ Asked operating 3 [255, 0] := by decide

theorem witness_SampleRequestIsJudged :
    Asked operating 0x20 [2, 1, 0, 0, 0, 0, 0, 0, 1, 2] ∧ Asked operating 0x20 [2, 1, 0, 0, 0, 0, 0] := by decide

/-! ### Witnesses: the profile store -/

theorem witness_ProfileOpenChecksItsFields :
    ∀ b ∈ [([1, 1, 1, 0, 255] : List Byte), [17, 1, 1, 0, 255], [2, 0, 1, 0, 255], [2, 9, 1, 0, 255], [2, 1, 0, 0, 255],
        [2, 1, 9, 0, 255], [2, 1, 1, 2, 255], [2, 1, 1, 0, 8], [2, 1, 1, 0, 254], [2, 1, 1, 0, 255, 0x1F],
        [2, 1, 1, 0, 255, 0x7F]],
      Asked operating 5 b ∧
      ((∃ ch ∈ b.drop 5, ¬ Within 0x20 0x7E ch.toNat) ∨ ¬ Within 2 16 (fieldAt b 0 1) ∨ ¬ Within 1 8 (fieldAt b 1 1) ∨
        ¬ Within 1 8 (fieldAt b 2 1) ∨ 2 ≤ fieldAt b 3 1 ∨ (8 ≤ fieldAt b 4 1 ∧ fieldAt b 4 1 ≠ 0xFF)) := by decide

/-- The request opens the profile, single or of a pair, under the slot request. -/
theorem opens (nz ni request : Byte) (h : (nz = 1 ∧ ni = 1) ∨ (nz = 8 ∧ ni = 8)) :
    OpensProfile (ask [16, nz, ni, 1, request]) request (newProfile ⟨16, nz.toNat, ni.toNat⟩ .high []) := by
  refine ⟨16, nz, ni, 1, [], rfl, ?_⟩
  rcases h with ⟨rfl, rfl⟩ | ⟨rfl, rfl⟩ <;> decide +kernel

theorem witness_SingleProfileFillsHalfPairsFirst :
    let p := newProfile ⟨16, 1, 1⟩ .high []
    let half : State := { operating with slots := (Eight.all .empty).set 0 (.live .opened small) }
    OpensProfile (ask [16, 1, 1, 1, 0xFF]) 0xFF p ∧ p.size ≤ 65536 ∧ Asked operating 5 [16, 1, 1, 1, 0xFF] ∧
    (half.slots.get 1 = .empty ∧ half.slots.get (partnerOf 1) ≠ .empty ∧
      ∀ j < (1 : Fin 8), half.slots.get j = .empty → half.slots.get (partnerOf j) = .empty) ∧
    (operating.slots.get 0 = .empty ∧ (∀ j < (0 : Fin 8), operating.slots.get j ≠ .empty) ∧
      ∀ j, operating.slots.get j = .empty → operating.slots.get (partnerOf j) = .empty) ∧
    ∀ j, (Eight.all (Slot.live .opened small)).get j ≠ .empty :=
  ⟨opens 1 1 0xFF (.inl ⟨rfl, rfl⟩), by decide⟩

theorem witness_PairAndNamedAllocation :
    let single := newProfile ⟨16, 1, 1⟩ .high []
    let pair := newProfile ⟨16, 8, 8⟩ .high []
    let half : Eight Slot := (Eight.all .empty).set 7 (.live .opened small)
    OpensProfile (ask [16, 8, 8, 1, 0xFF]) 0xFF pair ∧ OpensProfile (ask [16, 8, 8, 1, 6]) (slotByte 6) pair ∧
    OpensProfile (ask [16, 1, 1, 1, 7]) (slotByte 7) single ∧ 65536 < pair.size ∧ single.size ≤ 65536 ∧
    Asked operating 5 [16, 8, 8, 1, 0xFF] ∧ Asked operating 5 [16, 8, 8, 1, 6] ∧ Asked operating 5 [16, 1, 1, 1, 7] ∧
    ((6 : Fin 8).val % 2 = 0 ∧ operating.slots.get 6 = .empty ∧ operating.slots.get (partnerOf 6) = .empty) ∧
    half.get (partnerOf 6) ≠ .empty ∧ half.get 7 ≠ .empty :=
  ⟨opens 8 8 0xFF (.inr ⟨rfl, rfl⟩), opens 8 8 6 (.inr ⟨rfl, rfl⟩), opens 1 1 7 (.inl ⟨rfl, rfl⟩), by decide⟩

/-- Slot 7 is OPEN with the small profile's geometry and nothing written. -/
def writing : State :=
  { operating with slots := (Eight.all .empty).set 7 (.live .opened (newProfile ⟨2, 1, 1⟩ .low [])) }

theorem witness_ProfileWriteStoresItsRun_section :
    ∀ b ∈ [([7, 5, 0, 0] : List Byte), [7, 255, 0, 0, 1]],
      4 ≤ b.length ∧ (∃ n ∈ b[1]?, 4 < n.toNat) ∧ Asked writing 6 b := by decide

theorem witness_ProfileWriteStoresItsRun :
    (∀ b ∈ [([7, 3, 1, 0, 0, 64] : List Byte), [7, 3, 1, 0, 0, 64, 0, 64], [7, 3, 0, 0, 255, 63], [7, 3, 0, 0, 0],
        [8, 3, 0, 0, 0, 64], [6, 3, 0, 0, 0, 64]],
      4 ≤ b.length ∧ b[1]? = some Section5.magnification.code ∧ Asked writing 6 b) ∧
    writing.slots.get 7 = .live .opened (newProfile ⟨2, 1, 1⟩ .low []) ∧ ProfileOk (newProfile ⟨2, 1, 1⟩ .low []) ∧
    (∀ p, writing.slots.get 6 ≠ .live .opened p) ∧
    (1 + (runElements .magnification [0, 64]).length ≤ Geometry.count ⟨2, 1, 1⟩ .magnification ∧
      ∀ x ∈ runElements .magnification [0, 64], ∀ n ∈ x, 16384 ≤ n) ∧
    Geometry.count ⟨2, 1, 1⟩ .magnification < 1 + (runElements .magnification [0, 64, 0, 64]).length ∧
    (∃ x ∈ runElements .magnification [255, 63], ∃ n ∈ x, n < 16384) ∧
    ¬ (([0] : List Byte).length % 2 = 0) := by
  refine ⟨by decide, by decide, by decide, ?_, by decide⟩
  intro p h
  cases h

theorem witness_ProfileCloseChecksAndReadies :
    let close (p : Profile) : State := { operating with slots := (Eight.all .empty).set 7 (.live .opened p) }
    let p := newProfile ⟨2, 1, 1⟩ .low []
    let level : Body := { small.body with focusNodes := [some 1000, some 1000] }
    (Asked operating 7 [8] ∧ 8 ≤ (8 : Byte).toNat) ∧ (Asked operating 7 [7] ∧ ∀ p, operating.slots.get 7 ≠ .live .opened p) ∧
    ((close p).slots.get 7 = .live .opened p ∧ (p.body.marks .focusNodes)[0]? = some false ∧
      (∀ j < 0, (p.body.marks .focusNodes)[j]? = some true) ∧
      ∀ k' : Section5, k'.code.toNat < Section5.focusNodes.code.toNat → ∀ m ∈ p.body.marks k', m = true) ∧
    ((∀ k, ∀ m ∈ level.marks k, m = true) ∧ (level.nodesOf .focus)[0]? = some 1000 ∧
      (level.nodesOf .focus)[1]? = some 1000 ∧ ((level.nodesOf .focus).take 1).Pairwise (· < ·) ∧
      ∀ a' : Axis, a'.code.toNat < Axis.focus.code.toNat → (level.nodesOf a').Pairwise (· < ·)) ∧
    (∀ k, ∀ m ∈ small.body.marks k, m = true) ∧ ∀ a, (small.body.nodesOf a).Pairwise (· < ·) := by
  refine ⟨by decide, ⟨by decide, fun p h => by cases h⟩, ⟨rfl, rfl, by decide, ?_⟩, ⟨?_, rfl, rfl, by decide, ?_⟩, ?_, ?_⟩
  · intro k' h; cases k' <;> exact absurd h (by decide)
  · intro k; cases k <;> decide
  · intro a' h; cases a' <;> exact absurd h (by decide)
  · intro k; cases k <;> decide
  · intro a; cases a <;> decide

theorem witness_ProfileDiscardEmptiesTheSlot :
    let holds (x : Slot) : State := { operating with slots := (Eight.all .empty).set 7 x }
    let named : State :=
      { holds (.live .ready small) with
        settings :=
          { Settings.initial with
            staged := { Params.default with profile := some 7 }, changed := { Changed.clear with profile := true } } }
    Asked operating 8 [8] ∧ Asked operating 8 [7] ∧ operating.slots.get 7 = .empty ∧
    (holds (.partner 6)).slots.get 7 = .partner 6 ∧ (holds (.live .inUse small)).slots.get 7 = .live .inUse small ∧
    named.settings.changed.profile = true ∧ named.settings.staged.profile = some 7 ∧
    (holds (.live .opened small)).slots.get 7 = .live .opened small ∧
    (holds (.live .ready small)).settings.changed.profile = false := by decide

theorem witness_StoreInvariantKept :
    (∀ s ∈ steps, s.StoreInv) ∧ ∀ s ∈ steps, ∃ t, step s = .next t := ⟨by decide +kernel, steps_go_on⟩

/-- The small profile is well shaped and wholly written. -/
theorem corrected_contents : corrected.ContentInv := by
  intro i
  fin_cases i
  · show ProfileOk small ∧ ProfileDone small
    decide +kernel
  all_goals exact True.intro

theorem witness_ContentInvariantKept : (∀ s ∈ steps, s.ContentInv) ∧ ∀ s ∈ steps, ∃ t, step s = .next t := by
  refine ⟨?_, steps_go_on⟩
  intro s h
  fin_cases h
  · exact corrected_contents
  · intro i
    fin_cases i <;> exact True.intro

/-! ### Witnesses: settings and ramps -/

theorem witness_StageWriteStagesTheValue :
    (∀ b ∈ [([10] : List Byte), [2, 0], [2, 255, 63], [2, 255, 255], [6, 160, 134, 1, 0], [0, 7], [9, 255], [3, 2, 1, 0]],
      Asked operating 0x0E b) ∧
    (∀ v : Setting, ¬ v.CodedBy 2 [255, 63]) ∧ (Setting.refMag 65535).CodedBy 2 [255, 255] ∧
    (Setting.coastLimit 100000).CodedBy 6 [160, 134, 1, 0] ∧ operating.settings.staged.lostLimit = 250000 ∧
    ({ Params.default with coastLimit := 0, lostLimit := 99999 } : Params).lostLimit < 100000 ∧
    (Setting.profile (some 7)).CodedBy 0 [7] ∧ operating.slots.get 7 = .empty ∧
    (Setting.focusOrder [.panel, .motor, .mount]).CodedBy 3 [2, 1, 0] ∧ (∀ v : Setting, ¬ v.CodedBy 3 [2, 2]) ∧
    (Setting.fadeFrames 255).CodedBy 9 [255] := by
  have coded {n : Nat} {value : List Byte} (h : (settingLength n).all (value.length == ·) = true) (v : Setting) :
      decodeSetting n value = some v ↔ v.CodedBy n value :=
    decodeSetting_iff (by intro len e; simpa [e] using h) v
  refine ⟨by decide, ?_, (coded (by decide) _).mp (by decide), (coded (by decide) _).mp (by decide), rfl, by decide,
    (coded (by decide) _).mp (by decide), by decide, (coded (by decide) _).mp (by decide), ?_,
    (coded (by decide) _).mp (by decide)⟩ <;>
  · intro v h
    rw [← coded (by decide)] at h
    revert h
    exact Option.some_ne_none v ∘ Eq.symm

theorem witness_StageApplyTakesEffect :
    Asked operating 0x0F [2] ∧ Asked operating 0x0F [1] ∧ Asked operating 0x0F [0] ∧ operating.pixel.stream = .stopped ∧
    operating.SettingsInv ∧ Asked waiting 0x0F [0] ∧ waiting.pixel.stream ≠ .stopped := by decide

theorem witness_StageCancelWithdrawsEverything : Asked operating 0x10 [] := by decide

theorem witness_FramingCaptureIsOwed : Asked operating 0x12 [] := by decide

theorem witness_SettingsInvariantKept :
    (∀ s ∈ steps, s.SettingsInv) ∧ ∀ s ∈ steps, ∃ t, step s = .next t := ⟨by decide +kernel, steps_go_on⟩

theorem witness_RampRequestsAct :
    (∀ form ∈ [(0 : Byte), 1, 2], ∀ selector ∈ [(0 : Byte), 2],
      let b : List Byte := [selector, form, 0, 1, 255, 15]
      Asked operating 0x13 b ∧ b.length = 6 ∧ fieldAt b 0 1 ≤ 2 ∧ fieldAt b 1 1 = form.toNat ∧ fieldAt b 2 2 = 256 ∧
        fieldAt b 4 2 = 4095) ∧
    (Asked operating 0x13 [1, 3, 255, 255, 255, 255] ∧ fieldAt [1, 3, 255, 255, 255, 255] 1 1 = 3) ∧
    (∀ b ∈ [([3, 3, 0, 0, 0, 0] : List Byte), [0, 4, 0, 0, 0, 0], [0, 2, 1, 1, 0, 0], [0, 2, 0, 0, 0, 16]],
      Asked operating 0x13 b ∧ (2 < fieldAt b 0 1 ∨ 3 < fieldAt b 1 1 ∨
        (fieldAt b 1 1 ≤ 2 ∧ (256 < fieldAt b 2 2 ∨ 4095 < fieldAt b 4 2))) ∧
      ((Instr.rampNow (ask b)).wf = true ∨ (Instr.rampHalt (ask b)).wf = true)) := by decide

theorem witness_RampStepsAtHeader :
    (∀ r ∈ [(⟨0, 256, 0, 4095, 0, true, none⟩ : Ramp), ⟨0, 256, 0, 1, 0, true, none⟩,
        ⟨0, 256, 0, 1, 0, true, some ⟨.restart, 0, 0⟩⟩, ⟨256, 256, 0, 0, 0, false, none⟩,
        ⟨256, 256, 0, 0, 0, false, some ⟨.continue, 0, 4095⟩⟩], RampOk r) := by decide

theorem witness_RampCompletesAtHeader :
    let s : State := { waiting with ramps := ⟨⟨0, 256, 0, 1, 0, true, none⟩, Ramp.initial, 256⟩ }
    s.running = true ∧ s.announces header7 = true ∧ s.ramps.completes = true ∧ waiting.ramps.completes = false ∧
    operating.announces header7 = false := by decide

theorem witness_RampInvariantKept :
    (∀ s ∈ steps, s.RampInv) ∧ ∀ s ∈ steps, ∃ t, step s = .next t := ⟨by decide +kernel, steps_go_on⟩

/-! ### Witnesses: watches and faults -/

theorem witness_WatchRequestsAct :
    (∀ b ∈ [([8, 0, 0, 0, 0, 0, 0, 0, 0, 0] : List Byte), [0, 0, 32, 0, 0, 0, 0, 0, 0, 0], [0, 1, 0, 2, 0, 0, 0, 0, 0, 0],
        [0, 0, 0, 0, 0, 1, 0, 0, 0, 0], [0, 0, 0, 0, 0, 0, 0, 0, 0, 4]], b.length = 10 ∧ Asked operating 0x14 b) ∧
    (8192 ≤ fieldAt [0, 0, 32] 1 2 ∧ (fieldAt [2, 0] 0 2).testBit 1 = true ∧ (fieldAt [1, 0] 0 2).testBit 1 = false) ∧
    (let b : List Byte := [7, 255, 31, 255, 31, 255, 255, 255, 255, 3]
     b.length = 10 ∧ Asked operating 0x14 b ∧ fieldAt b 0 1 = (7 : Fin 8).val ∧ fieldAt b 1 2 = 8191 ∧
      fieldAt b 3 2 = 8191 ∧ fieldAt b 5 2 = 65535 ∧ fieldAt b 7 2 = 65535 ∧ fieldAt b 9 1 = 3) ∧
    Asked operating 0x15 [0x80] := by decide

theorem witness_WatchTripsOnLosingConformity :
    let w (expected : BitVec 13) (x : Baseline) : Watch := ⟨1, expected, 0, 0, 3, x, false, false⟩
    (w 0 .unknown).selection ≠ 0 ∧ ConformsTo (w 0 .unknown) (planOf 0) ∧ ¬ ConformsTo (w 1 .conform) (planOf 0) ∧
    (w 1 .unknown).baseline ≠ .conform ∧ Watch.initial.selection = 0 := by decide

theorem witness_FaultReadReportsAndClears :
    Asked operating 0x17 [0] ∧ Asked operating 0x17 [1] ∧ Asked operating 0x17 [2] ∧ 2 ≤ (2 : Byte).toNat := by decide

theorem witness_FirstFaultIsKept_step :
    (∀ s ∈ steps, s.FaultInv) ∧ (∀ s ∈ steps, ∃ t, step s = .next t) ∧ ∀ s ∈ steps, s.faults = none :=
  ⟨by decide +kernel, steps_go_on, by decide +kernel⟩

theorem witness_FirstFaultIsKept :
    let s : State := { waiting with faults := some ⟨.format, some 1, none, 255⟩ }
    s.FaultInv ∧ (∃ t, exec (.inputRow []) s = .next t) ∧ (∀ q, Instr.inputRow [] = .faultRead q → q.body ≠ [1]) ∧
    Instr.inputRow [] ≠ .resetEnd ∧ Instr.inputRow [] ≠ .resetLineRelease ∧ Instr.inputRow [] ≠ .powerOn ∧
    Instr.inputRow [] ≠ .powerLoss :=
  ⟨by decide, ⟨_, rfl⟩, nofun, nofun, nofun, nofun, nofun⟩

/-! ### Witnesses: the stream -/

theorem witness_StreamConfigureDerivesTheDepth :
    let good : List Byte := [64, 0, 64, 0, 8, 0, 0, 64, 1, 0, 1, 0, 0, 0, 0, 0, 32, 0, 32]
    let deep : List Byte := [0, 16, 0, 12, 8, 0, 0, 64, 1, 0, 0, 0, 0, 232, 3, 1, 0, 1, 0]
    let wide : List Byte := [1, 16, 64, 0, 8, 0, 0, 64, 1, 0, 1, 0, 0, 0, 0, 1, 0, 1, 0]
    (good.length = 19 ∧ Asked operating 0x0A good ∧ (configureFields good).centred.good = true ∧
      (configureFields good).centred.configuration.depth ≤ (configureFields good).centred.configuration.capacity) ∧
    (Asked operating 0x0A deep ∧ (configureFields deep).centred.good = true ∧
      (configureFields deep).centred.configuration.capacity < (configureFields deep).centred.configuration.depth) ∧
    (Asked operating 0x0A wide ∧ ¬ Within 64 4096 (fieldAt wide 0 2)) ∧ operating.pixel.stream = .stopped ∧
    (Asked waiting 0x0A good ∧ waiting.pixel.stream ≠ .stopped) := by decide

theorem witness_StreamStartsAndStops :
    let idle : State := { waiting with pixel := { waiting.pixel with stream := .stopped } }
    (Asked operating 0x0B [] ∧ operating.pixel.stream = .stopped ∧ operating.pixel.config = none) ∧
    (Asked idle 0x0B [] ∧ idle.pixel.stream = .stopped ∧ idle.pixel.config ≠ none) ∧
    (Asked waiting 0x0C [] ∧ waiting.pixel.stream = .waiting) ∧
    (Asked (frameAt 0) 0x0C [] ∧ (frameAt 0).pixel.stream = .inFrame) := by decide

theorem witness_HeaderStartsFrame :
    (waiting.running = true ∧ waiting.pixel.stream = .waiting ∧ waiting.pixel.config = some config64 ∧
      header7.width = config64.width ∧ header7.height = config64.height) ∧
    ({ header7 with width := 65 } : FrameHeader).width ≠ config64.width ∧ operating.pixel.stream = .stopped ∧
    ((frameAt 0).running = true ∧ (frameAt 0).pixel.stream = .inFrame ∧ (frameAt 0).PixelInv) := by decide +kernel

/-- The pixel path and the plan queue of frame 7 are consistent at its start, at its first emitted row, and at its end. -/
theorem frameAt_consistent : ∀ n ∈ [0, 2, 20, 63, 64], (frameAt n).PixelInv ∧ (frameAt n).QueueInv := by
  have pixel : ∀ n ∈ [0, 2, 20, 63, 64], (frameAt n).PixelInv := by
    intro n h
    fin_cases h <;> decide +kernel
  have queue : ∀ n ∈ [0, 2, 20, 63, 64], (frameAt n).QueueInv := by decide +kernel
  exact fun n h => ⟨pixel n h, queue n h⟩

theorem witness_AcceptedRowIsStoredAndEmits :
    ∀ n ∈ [0, 2, 63], (frameAt n).PixelInv ∧ (frameAt n).running = true ∧ (frameAt n).pixel.config = some config64 ∧
      ∀ f ∈ (frameAt n).pixel.frame, f.report.rowsReceived < config64.height := by
  intro n h
  refine ⟨(frameAt_consistent n (by revert n; decide)).1, rfl, rfl, ?_⟩
  revert n; decide

theorem witness_UnacceptedRowsAreDiscarded :
    operating.running = true ∧ operating.pixel.stream = .stopped ∧ waiting.pixel.stream = .waiting ∧
    waiting.pixel.skip = false ∧ waiting.pixel.orphan = false ∧
    (after (.inputRow []) waiting).pixel.orphan = true ∧ (frameAt 64).pixel.stream = .inFrame ∧
    (∀ f ∈ (frameAt 64).pixel.frame, f.report.rowsReceived = config64.height ∧ f.report.long = false) ∧
    (∀ f ∈ (after (.inputRow []) (frameAt 64)).pixel.frame, f.report.rowsReceived = 64 ∧ f.report.long = true) ∧
    ({ State.reset with powered := false } : State).running = false := by decide +kernel

theorem witness_FrameEndClosesFrame :
    (∀ n ∈ [0, 63, 64], (frameAt n).PixelInv ∧ (frameAt n).QueueInv ∧ (frameAt n).running = true ∧
      (frameAt n).pixel.config = some config64 ∧ (frameAt n).pixel.frame.isSome = true) ∧
    waiting.pixel.stream = .waiting ∧ operating.pixel.stream = .stopped :=
  ⟨fun n h => ⟨(frameAt_consistent n (by revert n; decide)).1, (frameAt_consistent n (by revert n; decide)).2, rfl, rfl, rfl⟩,
    rfl, rfl⟩

theorem witness_PixelInvariantKept : (∀ s ∈ steps, s.PixelInv) ∧ ∀ s ∈ steps, ∃ t, step s = .next t := by
  refine ⟨?_, steps_go_on⟩
  intro s h
  fin_cases h <;> decide +kernel

theorem witness_QueueInvariantKept :
    (frameAt 63).PixelInv ∧ (frameAt 63).QueueInv ∧ ∃ t, step { frameAt 63 with pending := [.inputRow []] } = .next t :=
  ⟨(frameAt_consistent 63 (by decide)).1, (frameAt_consistent 63 (by decide)).2, ⟨_, rfl⟩⟩

theorem witness_PlanInvariantKept :
    (frameAt 63).RampInv ∧ (frameAt 63).PixelInv ∧ (frameAt 63).QueueInv ∧ (frameAt 63).PlanInv ∧
    (∃ t, step { frameAt 63 with pending := [.inputRow []] } = .next t) ∧ (frameAt 63).ContentInv := by
  refine ⟨by decide +kernel, by decide +kernel, by decide +kernel, by decide +kernel, ⟨_, rfl⟩, ?_⟩
  intro i
  fin_cases i <;> exact True.intro

theorem witness_ZeroStrengthIsTheIdentity :
    (frameAt 20).PixelInv ∧ (frameAt 20).QueueInv ∧ (frameAt 20).PlanInv ∧ (frameAt 20).running = true ∧
    (planOf 2 ∈ (frameAt 20).planner.queue ∧ (planOf 2).kb = 0 ∧ (planOf 2).kv = 0) ∧
    (∀ f ∈ (frameAt 20).pixel.frame, config64.lag ≤ f.report.rowsReceived ∧ f.report.rowsReceived < config64.height ∧
      (planOf 2).band = (f.report.rowsReceived - config64.lag) / config64.hb) ∧
    ∀ f ∈ (frameAt 20).pixel.frame, f.report.rowsEmitted ≤ 19 ∧ 19 < f.report.rowsReceived ∧
      (planOf 2).band = 19 / config64.hb :=
  ⟨(frameAt_consistent 20 (by decide)).1, (frameAt_consistent 20 (by decide)).2, by decide +kernel, rfl, by decide +kernel,
    by decide, by decide⟩

theorem witness_OutputInvariantKept :
    (frameAt 63).PixelInv ∧ (frameAt 63).VideoInv ∧ (frameAt 64).VideoInv ∧
    (∃ t, step { frameAt 63 with pending := [.inputRow []] } = .next t) ∧
    (({ frameAt 63 with pending := [.inputRow []] } : State).pending.head? ≠ some .powerLoss) ∧
    operating.pixel.frame = none ∧ operating.VideoInv :=
  ⟨(frameAt_consistent 63 (by decide)).1, by decide +kernel, by decide +kernel, ⟨_, rfl⟩, nofun, rfl, by decide⟩

/-! ### Witnesses: the tracker, the planner and the resets -/

theorem witness_HistoryInvariantKept :
    (∀ s ∈ steps, s.HistoryInv) ∧ ∀ s ∈ steps, ∃ t, step s = .next t := ⟨by decide +kernel, steps_go_on⟩

theorem witness_TrackInvariantKept :
    (∀ s ∈ steps, s.HistoryInv ∧ s.TrackInv) ∧ ∀ s ∈ steps, ∃ t, step s = .next t := ⟨by decide +kernel, steps_go_on⟩

theorem witness_FirstLiveSourceIsUsed :
    let s : State :=
      { operating with intake := { Intake.initial with histories := ⟨[], [⟨16, ⟨some 1, none, none⟩⟩], []⟩ } }
    s.SettingsInv ∧ s.SourceLost .focus 250016 .mount ∧ ¬ s.SourceLost .focus 250016 .motor ∧
    s.SourceLost .focus 250017 .motor := by decide

/-- MOUNT's samples carry the focus of the extrapolation figures of 3.3, and PANEL's one sample the iris. -/
def heard : State :=
  { operating with
    intake :=
      { Intake.initial with
        histories :=
          ⟨[⟨50000, ⟨some 40000, none, none⟩⟩, ⟨52000, ⟨none, some 7, none⟩⟩, ⟨54000, ⟨some 40600, none, none⟩⟩], [],
           [⟨16, ⟨none, none, some 9⟩⟩]⟩ } }

/-- The track of an axis after an evaluation of those samples. -/
def evaluatedAt (t : Nat) (a : Axis) : Track := (heard.evaluate t).tracks.get a

/-- The clauses on the values of a source in use, at the bounds of their ranges. -/
theorem witness_FirstLiveSourceIsUsed_values :
    heard.HistoryInv ∧ heard.SettingsInv ∧
    carrying .focus (heard.intake.histories.get .mount) = [(50000, 40000), (54000, 40600)] ∧
    heard.settings.active.coastLimit = 10000 ∧
    ([0, 50000, 52000, 54000, 54001, 64000, 64001, 304000].all fun t => (evaluatedAt t .focus).source == some .mount) = true ∧
    (evaluatedAt 304001 .focus).source = none ∧
    ([0, 50000, 52000, 54000].map fun t => ((evaluatedAt t .focus).state, (evaluatedAt t .focus).held)) =
      [(.fresh, some 40000), (.fresh, some 40000), (.fresh, some 40300), (.fresh, some 40600)] ∧
    ([56000, 64001].map fun t => ((evaluatedAt t .focus).state, (evaluatedAt t .focus).held)) =
      [(.coasting, some 40900), (.holding, some 40600)] ∧
    ((evaluatedAt 10016 .iris).state, (evaluatedAt 10016 .iris).held) = (.coasting, some 9) :=
  ⟨by decide, by decide, by decide, by decide, by decide +kernel, by decide +kernel, by decide +kernel, by decide +kernel,
    by decide +kernel⟩

theorem witness_CaptureIsTakenByACorrectedPlan :
    (inUse operating.slots = none) ∧ inUse corrected.slots = some (0, small) ∧
    usedAxesKnown small.used corrected.tracks = true ∧ usedAxesKnown small.used operating.tracks = false ∧
    corrected.ContentInv ∧ corrected.planner.captureOwed = false ∧
    (after (.framingCapture (ask [])) (asking corrected 0x12 [])).planner.captureOwed = true :=
  ⟨by decide, by decide, by decide, by decide, corrected_contents, by decide, by decide⟩

theorem witness_StreamRestartAbortsTheFrame :
    Asked (frameAt 3) 4 [0] ∧ (frameAt 3).pixel.frame.isSome = true ∧ Asked operating 4 [0] ∧ Asked operating 4 [3] ∧
    3 ≤ (3 : Byte).toNat := by decide

/-- The reset line is held in a part with power. -/
def held : State := after .resetLineAssert operating

theorem witness_DeviceResetBegins :
    Asked operating 4 [1] ∧ Asked operating 4 [2] ∧ operating.resetLine = false ∧ operating.powered = true ∧
    (after .powerLoss operating).resetLine = false ∧ (after .powerLoss operating).powered = false := by decide

theorem witness_DeviceResetEnds :
    let run : ResetRun := ⟨.warmRequest, 7⟩
    let s := after (.restartWarm (ask [1])) (asking operating 4 [1])
    (s.powered = true ∧ s.resetLine = false ∧ s.resetRun = some run) ∧
    (held.powered = true ∧ held.resetLine = true ∧ held.resetRun ≠ none) := by decide

theorem witness_PowerIsLostAndApplied :
    operating.powered = true ∧ (after .powerLoss operating).powered = false ∧ (after .powerLoss operating).resetLine = false ∧
    ∃ t, exec .powerOn (after .powerLoss operating) = .next t := ⟨by decide, by decide, by decide, ⟨_, rfl⟩⟩

end Sys2Proof.Tests
end

/-! PROOFS. The allocation and the emptying of profile slots (R5 to R8, R15, R16). First what the shared operations do, each said
once: the bytes of a body, the search of the eight slots, the answering of a request, and the two owners; then the statements. -/

namespace Sys2Proof.Machine

/-! ### Bytes of a body -/

/-- A field of one byte holds the byte that stands there. -/
theorem fieldAt_byte {body : List Byte} {i : Nat} {b : Byte} (h : body[i]? = some b) : fieldAt body i 1 = b.toNat := by
  obtain ⟨hi, rfl⟩ := List.getElem?_eq_some_iff.mp h
  rw [fieldAt, List.drop_eq_getElem_cons hi, List.take_succ_cons, List.take_zero]
  exact Nat.add_zero _

/-- The byte of a slot number holds that number. -/
@[simp] theorem slotByte_toNat (i : Fin 8) : (slotByte i).toNat = i.val := by
  revert i; decide

/-- The byte of a slot number is not the slot request ANY. -/
theorem slotByte_toNat_ne_any (i : Fin 8) : (slotByte i).toNat ≠ 0xFF := by
  rw [slotByte_toNat]; omega

/-! ### The search of the eight slots -/

/-- A slot tests EMPTY exactly when it is (R3). -/
@[simp] theorem Slot.isEmpty_iff {x : Slot} : x.isEmpty = true ↔ x = .empty := by
  cases x <;> simp [Slot.isEmpty]

/-- A search of the numbers 0 to 7 finds the lowest that meets its test. -/
theorem find?_indices8_eq_some {f : Fin 8 → Bool} {i : Fin 8} :
    indices8.find? f = some i ↔ f i = true ∧ ∀ j < i, ¬ f j = true := by
  have hall : ∀ j : Fin 8, indices8[j.val]'j.isLt = j := by decide
  have hget (j : Nat) (h : j < indices8.length) : indices8[j] = ⟨j, h⟩ := hall ⟨j, h⟩
  rw [List.find?_eq_some_iff_getElem]
  refine and_congr_right fun _ => ⟨?_, fun hlow => ?_⟩
  · rintro ⟨k, hk, rfl, hlow⟩ j hj
    rw [hget] at hj
    simpa [hget] using hlow j.val hj
  · refine ⟨i.val, i.isLt, hget _ _, fun j hj => ?_⟩
    simpa [hget] using hlow ⟨j, hj.trans i.isLt⟩ hj

/-- A search of the numbers 0 to 7 fails when none of them meets its test. -/
theorem find?_indices8_eq_none {f : Fin 8 → Bool} : indices8.find? f = none ↔ ∀ i, ¬ f i = true := by
  have hmem : ∀ i, i ∈ indices8 := by decide
  simp [List.find?_eq_none, hmem]

/-- The slot is even and EMPTY with its partner, as a pair profile needs it (R7). -/
def WholePair (slots : Eight Slot) (i : Fin 8) : Prop :=
  i.val % 2 = 0 ∧ slots.get i = .empty ∧ slots.get (partnerOf i) = .empty

/-- The slot is EMPTY and its partner is not, as R6 prefers it for a single profile. -/
def HalfPair (slots : Eight Slot) (i : Fin 8) : Prop :=
  slots.get i = .empty ∧ slots.get (partnerOf i) ≠ .empty

/-- The test of the search for a half-used pair. -/
theorem halfPair_iff {slots : Eight Slot} {i : Fin 8} :
    ((slots.get i).isEmpty && !(slots.get (partnerOf i)).isEmpty) = true ↔ HalfPair slots i := by
  simp [HalfPair, ← Slot.isEmpty_iff]

/-- The test of the search for a whole pair. -/
theorem wholePair_iff {slots : Eight Slot} {i : Fin 8} :
    (i.val % 2 == 0 && (slots.get i).isEmpty && (slots.get (partnerOf i)).isEmpty) = true ↔ WholePair slots i := by
  simp [WholePair, and_assoc]

/-- ANY for a single profile is first the lowest slot of a half-used pair (R6). -/
theorem chooseSingle_of_halfPair {slots : Eight Slot} {i : Fin 8} (hi : HalfPair slots i)
    (hlow : ∀ j < i, ¬ HalfPair slots j) : chooseSingle slots = some i := by
  simp only [← halfPair_iff] at hi hlow
  rw [chooseSingle, find?_indices8_eq_some.mpr ⟨hi, hlow⟩]

/-- ANY for a single profile is, when no pair is half used, found by the search for an EMPTY slot (R6). -/
theorem chooseSingle_of_no_halfPair {slots : Eight Slot} (h : ∀ j, ¬ HalfPair slots j) :
    chooseSingle slots = indices8.find? fun i => (slots.get i).isEmpty := by
  simp only [← halfPair_iff] at h
  rw [chooseSingle, find?_indices8_eq_none.mpr h]

/-- ANY for a pair profile is the lowest whole pair (R7). -/
theorem choosePair_eq_some {slots : Eight Slot} {i : Fin 8} :
    choosePair slots = some i ↔ WholePair slots i ∧ ∀ j < i, ¬ WholePair slots j := by
  simp only [← wholePair_iff]; exact find?_indices8_eq_some

/-- ANY for a pair profile finds nothing when there is no whole pair (R7). -/
theorem choosePair_eq_none {slots : Eight Slot} : choosePair slots = none ↔ ∀ i, ¬ WholePair slots i := by
  simp only [← wholePair_iff]; exact find?_indices8_eq_none

/-- A named slot can take a single profile when it is EMPTY (R7). -/
theorem namedSlotFits_single {slots : Eight Slot} {i : Fin 8} :
    namedSlotFits slots false i = true ↔ slots.get i = .empty := Slot.isEmpty_iff

/-- A named slot can take a pair profile when it is a whole pair (R7). -/
theorem namedSlotFits_pair {slots : Eight Slot} {i : Fin 8} :
    namedSlotFits slots true i = true ↔ WholePair slots i := wholePair_iff

/-- A slot is held when PROFILE's changed flag is set and the staged PROFILE names it (R16). -/
theorem Settings.holds_iff {x : Settings} {i : Fin 8} :
    x.holds i = true ↔ x.changed.profile = true ∧ x.staged.profile = some i := by
  simp [Settings.holds]

/-! ### Answering a request -/

/-- An owner that answers from a state `t`, its record taken, leaves `t` with the taking and the reply. -/
theorem takeRequest_of_answer {kind : Byte} {q : Request} {owner : State → Answer} {s t : State} {code : ResultCode}
    {fields : List Byte} (h : s.takes ⟨kind, q.tag, q.body⟩ = true) (hl : lengthAgrees kind q.body.length = true)
    (ho : owner s.removeOldest = answer code fields t.removeOldest) :
    takeRequest kind q owner s = t.answered (replyTo kind q code fields) := by
  rw [takeRequest_of_takes h hl, ho]
  exact removeOldest_reply t _

/-- The taking of a record and a change of the slots do not meet. -/
theorem removeOldest_setSlots (s : State) (x : Eight Slot) : s.removeOldest.setSlots x = (s.setSlots x).removeOldest := rfl

/-! ### PROFILE_OPEN -/

/-- PROFILE_OPEN is the taking of its request for the profile store. -/
theorem exec_profileOpen (q : Request) (s : State) :
    exec (.profileOpen q) s = .next (takeRequest 0x05 q (profileOpenOwner q) s) := rfl

/-- The request is long enough for its five fields (R183). -/
theorem OpensProfile.lengthAgrees {q : Request} {request : Byte} {p : Profile} (h : OpensProfile q request p) :
    lengthAgrees 0x05 q.body.length = true := by
  obtain ⟨nf, nz, ni, e, label, hbody, -⟩ := h
  rw [hbody]
  simp [Machine.lengthAgrees, requestLength]

/-- A profile is a pair profile when one slot has no room for it (R2). -/
theorem OpensProfile.pair_eq {q : Request} {request : Byte} {p : Profile} (h : OpensProfile q request p) :
    p.pair = decide (65536 < p.size) := by
  obtain ⟨nf, nz, ni, e, label, -, -, -, -, -, -, -, -, -, -, -, hpair, -⟩ := h
  exact hpair

/-- The byte of an infinity end (R183). -/
theorem decodeInfinity_of_le_one {e : Byte} (h : e.toNat ≤ 1) :
    decodeInfinity e.toNat = some (if e = 1 then .high else .low) := by
  revert e; decide +kernel

/-- A good label passes its check (R5). -/
theorem labelGood_iff {label : List Byte} :
    labelGood label = true ↔ label.length ≤ 16 ∧ ∀ ch ∈ label, Within 0x20 0x7E ch.toNat := by
  simp [labelGood, Within]

/-- A request whose fields are good is a matter of the allocation of a slot (R5, R8). -/
theorem profileOpenOwner_of_opens {q : Request} {request : Byte} {p : Profile} (h : OpensProfile q request p) (s : State) :
    profileOpenOwner q s = allocate s request.toNat p := by
  obtain ⟨nf, nz, ni, e, label, hbody, hnf, hnz, hni, he, hlen, hch, hg, hinf, hlabel, hsize, hpair, h1, h2, h3, h4, h5⟩ := h
  have byte (i : Nat) {b : Byte} (hb : ([nf, nz, ni, e, request] ++ label)[i]? = some b) :
      fieldAt q.body i 1 = b.toNat := fieldAt_byte (hbody ▸ hb)
  have hgeometry : (⟨nf.toNat, nz.toNat, ni.toNat⟩ : Geometry).admissible = true :=
    decide_eq_true ⟨hnf.1, hnf.2, hnz.1, hnz.2, hni.1, hni.2⟩
  have hprofile : newProfile ⟨nf.toNat, nz.toNat, ni.toNat⟩ (if e = 1 then .high else .low) label = p := by
    rw [hsize] at hpair
    obtain ⟨g, inf, l, size, pair, ⟨f, z, i, m, sh⟩⟩ := p
    subst hg hinf hlabel hpair hsize h1 h2 h3 h4 h5
    rfl
  have hdrop : q.body.drop 5 = label := by rw [hbody]; rfl
  simp only [profileOpenOwner, byte 0 rfl, byte 1 rfl, byte 2 rfl, byte 3 rfl, byte 4 rfl, hdrop,
    decodeInfinity_of_le_one he, hgeometry, labelGood_iff.mpr ⟨hlen, hch⟩, hprofile, Bool.and_self, if_true]

/-- ANY opens the slot that the rule for the profile's size chooses (R6, R7). -/
theorem allocate_any_some {s : State} {p : Profile} {i : Fin 8}
    (h : (if p.pair then choosePair s.slots else chooseSingle s.slots) = some i) : allocate s 0xFF p = openAt s i p := by
  simp only [allocate, if_true, h]

/-- ANY is refused with NO_SLOT when the rule for the profile's size chooses none (R6, R7). -/
theorem allocate_any_none {s : State} {p : Profile}
    (h : (if p.pair then choosePair s.slots else chooseSingle s.slots) = none) : allocate s 0xFF p = refuse .noSlot s := by
  simp only [allocate, if_true, h]

/-- A named slot is opened when it can take the profile, and otherwise refused with SLOT_STATE (R7). -/
theorem allocate_named (s : State) (p : Profile) (i : Fin 8) :
    allocate s (slotByte i).toNat p =
      if namedSlotFits s.slots p.pair i then openAt s i p else refuse .slotState s := by
  simp only [allocate, if_neg (slotByte_toNat_ne_any i), index8_eq_some.mpr (slotByte_toNat i)]

section Opening

variable {q : Request} {request : Byte} {p : Profile} {s : State} {i : Fin 8}

/-- A PROFILE_OPEN whose allocation refuses it changes nothing. -/
theorem exec_profileOpen_refused {code : ResultCode} (hq : OpensProfile q request p)
    (ht : s.takes ⟨0x05, q.tag, q.body⟩ = true)
    (ha : allocate s.removeOldest request.toNat p = refuse code s.removeOldest) :
    exec (.profileOpen q) s = .next (s.answered (replyTo 0x05 q code [])) := by
  rw [exec_profileOpen,
    takeRequest_of_refusal ht hq.lengthAgrees ((profileOpenOwner_of_opens hq _).trans ha)]

/-- A PROFILE_OPEN whose allocation gives it slot `i` opens that slot (R8). -/
theorem exec_profileOpen_opened (hq : OpensProfile q request p) (ht : s.takes ⟨0x05, q.tag, q.body⟩ = true)
    (ha : allocate s.removeOldest request.toNat p = openAt s.removeOldest i p) :
    exec (.profileOpen q) s =
      .next ((s.setSlots (openSlot s.slots i p)).answered
        (replyTo 0x05 q .ok ([slotByte i] ++ leBytes 4 p.size ++ encodeFlag p.pair))) := by
  rw [exec_profileOpen, takeRequest_of_answer (t := s.setSlots (openSlot s.slots i p)) ht hq.lengthAgrees]
  rw [profileOpenOwner_of_opens hq, ha, openAt, removeOldest_slots, removeOldest_setSlots]

/-- A single profile takes slot `i` alone (R8). -/
theorem exec_profileOpen_single (hq : OpensProfile q request p) (ht : s.takes ⟨0x05, q.tag, q.body⟩ = true)
    (hp : p.pair = false) (ha : allocate s.removeOldest request.toNat p = openAt s.removeOldest i p) :
    exec (.profileOpen q) s =
      .next ({ s with slots := s.slots.set i (.live .opened p) }.answered
        (replyTo 0x05 q .ok ([slotByte i] ++ leBytes 4 p.size ++ [0]))) := by
  rw [exec_profileOpen_opened hq ht ha, openSlot, hp]
  rfl

/-- A pair profile takes slot `i` and makes its partner PARTNER (R8). -/
theorem exec_profileOpen_pair (hq : OpensProfile q request p) (ht : s.takes ⟨0x05, q.tag, q.body⟩ = true)
    (hp : p.pair = true) (ha : allocate s.removeOldest request.toNat p = openAt s.removeOldest i p) :
    exec (.profileOpen q) s =
      .next ({ s with slots := (s.slots.set i (.live .opened p)).set (partnerOf i) (.partner i) }.answered
        (replyTo 0x05 q .ok ([slotByte i] ++ leBytes 4 p.size ++ [1]))) := by
  rw [exec_profileOpen_opened hq ht ha, openSlot, hp]
  rfl

end Opening

/-- Settles O22: the search for a half-used pair, and, where it finds none, the search for an EMPTY slot. -/
theorem singleProfileFillsHalfPairsFirst : Obligations.SingleProfileFillsHalfPairsFirst := by
  intro q p s hq hsize ht
  have hp : p.pair = false := by rw [hq.pair_eq]; exact decide_eq_false (by omega)
  have noHalf (h : ∀ j, s.slots.get j = .empty → s.slots.get (partnerOf j) = .empty) (j : Fin 8) :
      ¬ HalfPair s.slots j := fun ⟨hj, hpartner⟩ => hpartner (h j hj)
  refine ⟨fun i hi => ?_, fun hfull => ?_⟩
  · have hchosen : chooseSingle s.slots = some i := by
      rcases hi with ⟨hempty, hpartner, hlow⟩ | ⟨hempty, hlow, hwhole⟩
      · exact chooseSingle_of_halfPair ⟨hempty, hpartner⟩ fun j hj ⟨hj', hpartner'⟩ => hpartner' (hlow j hj hj')
      · rw [chooseSingle_of_no_halfPair (noHalf hwhole), find?_indices8_eq_some]
        simpa only [Slot.isEmpty_iff] using ⟨hempty, hlow⟩
    exact exec_profileOpen_single hq ht hp (allocate_any_some (by simpa [hp] using hchosen))
  · have hnone : chooseSingle s.slots = none := by
      rw [chooseSingle_of_no_halfPair (noHalf fun j hj => absurd hj (hfull j)), find?_indices8_eq_none]
      simpa only [Slot.isEmpty_iff] using hfull
    exact exec_profileOpen_refused hq ht (allocate_any_none (by simpa [hp] using hnone))

/-- Settles O23: ANY by the search for a whole pair, a named slot by its fit, for each of the two sizes. -/
theorem pairAndNamedAllocation : Obligations.PairAndNamedAllocation := by
  intro q p s ht wholePair openedPair
  have pair {request : Byte} (hq : OpensProfile q request p) (h : 65536 < p.size) : p.pair = true := by
    rw [hq.pair_eq]; exact decide_eq_true h
  have single {request : Byte} (hq : OpensProfile q request p) (h : p.size ≤ 65536) : p.pair = false := by
    rw [hq.pair_eq]; exact decide_eq_false (by omega)
  refine ⟨fun hq hsize => ⟨fun i hi hlow => ?_, fun hnone => ?_⟩,
    fun i hq => ⟨fun hsize hi => ?_, fun hsize hi => ?_, fun hsize hi => ?_, fun hsize hi => ?_⟩⟩
  · have hchosen : choosePair s.slots = some i := choosePair_eq_some.mpr ⟨hi, hlow⟩
    exact exec_profileOpen_pair hq ht (pair hq hsize) (allocate_any_some (by simpa [pair hq hsize] using hchosen))
  · have hchosen : choosePair s.slots = none := choosePair_eq_none.mpr hnone
    exact exec_profileOpen_refused hq ht (allocate_any_none (by simpa [pair hq hsize] using hchosen))
  · refine exec_profileOpen_pair hq ht (pair hq hsize) ?_
    rw [allocate_named, pair hq hsize, removeOldest_slots, if_pos (namedSlotFits_pair.mpr hi)]
  · refine exec_profileOpen_refused hq ht ?_
    rw [allocate_named, pair hq hsize, removeOldest_slots, if_neg (namedSlotFits_pair.not.mpr hi)]
  · refine exec_profileOpen_single hq ht (single hq hsize) ?_
    rw [allocate_named, single hq hsize, removeOldest_slots, if_pos (namedSlotFits_single.mpr hi)]
  · refine exec_profileOpen_refused hq ht ?_
    rw [allocate_named, single hq hsize, removeOldest_slots, if_neg (namedSlotFits_single.not.mpr hi)]

/-! ### PROFILE_DISCARD -/

/-- PROFILE_DISCARD is the taking of its request for the profile store. -/
theorem exec_profileDiscard (q : Request) (s : State) :
    exec (.profileDiscard q) s = .next (takeRequest 0x08 q (profileDiscardOwner q) s) := rfl

section Discarding

variable {q : Request} {n : Byte} {s : State} {i : Fin 8}

/-- A PROFILE_DISCARD that its owner refuses changes nothing. -/
theorem exec_profileDiscard_refused {code : ResultCode} (hq : q.body = [n]) (ht : s.takes ⟨0x08, q.tag, q.body⟩ = true)
    (ho : profileDiscardOwner q s.removeOldest = refuse code s.removeOldest) :
    exec (.profileDiscard q) s = .next (s.answered (replyTo 0x08 q code [])) := by
  rw [exec_profileDiscard, takeRequest_of_refusal ht (by rw [hq]; rfl) ho]

/-- A PROFILE_DISCARD that its owner carries out empties the slot, and its partner with it for a pair profile (R15). -/
theorem exec_profileDiscard_emptied {p : Profile} (hq : q.body = [n]) (ht : s.takes ⟨0x08, q.tag, q.body⟩ = true)
    (ho : profileDiscardOwner q s.removeOldest = discardAt s.removeOldest i p) :
    exec (.profileDiscard q) s =
      .next ({ s with
          slots := if p.pair then (s.slots.set i .empty).set (partnerOf i) .empty else s.slots.set i .empty }.answered
        (replyTo 0x08 q .ok ([slotByte i] ++ encodeFlag p.pair))) := by
  rw [exec_profileDiscard, takeRequest_of_answer (t := s.setSlots (emptySlot s.slots i p.pair)) ht (by rw [hq]; rfl)]
  · rfl
  · rw [ho, discardAt, removeOldest_slots, removeOldest_setSlots]

end Discarding

/-- Settles O26, by the state of the slot that the request names. -/
theorem profileDiscardEmptiesTheSlot : Obligations.ProfileDiscardEmptiesTheSlot := by
  intro q n s hq ht
  have hfield : fieldAt q.body 0 1 = n.toNat := fieldAt_byte (by rw [hq]; rfl)
  refine ⟨fun hn => ?_, fun i hn => ?_⟩
  · refine exec_profileDiscard_refused hq ht ?_
    simp only [profileDiscardOwner, index8_eq_none.mpr (hfield ▸ hn)]
  · have hindex : index8 (fieldAt q.body 0 1) = some i := index8_eq_some.mpr (hfield.trans hn)
    refine ⟨fun hslot => ?_, fun p hslot hheld => ?_, fun p hslot => ?_⟩
    · refine exec_profileDiscard_refused hq ht ?_
      rcases hslot with hslot | ⟨j, hslot⟩ | ⟨p, hslot⟩ <;>
        simp only [profileDiscardOwner, hindex, removeOldest_slots, hslot]
    · refine exec_profileDiscard_refused hq ht ?_
      simp only [profileDiscardOwner, hindex, removeOldest_slots, removeOldest_settings, hslot]
      exact if_pos (Settings.holds_iff.mpr hheld)
    · refine exec_profileDiscard_emptied hq ht ?_
      rcases hslot with hslot | ⟨hslot, hfree⟩
      · simp only [profileDiscardOwner, hindex, removeOldest_slots, hslot]
      · simp only [profileDiscardOwner, hindex, removeOldest_slots, removeOldest_settings, hslot]
        exact if_neg (Settings.holds_iff.not.mpr hfree)

end Sys2Proof.Machine

/-! PROOFS. The sample intake (chapter 2). First what the pixel path and the owners of requests leave alone, each said once; then
all that a command can do to the intake, and the invariant of the histories from it; then the fields of a sample body and the
judging of SAMPLE. -/

namespace Sys2Proof.Machine

/-! ### What the pixel path leaves alone -/

/-- The blocks that no pixel packet touches: the queue of commands, the supply and the resets, the links and the intake. -/
structure LinkSide where
  pending    : List Instr
  powered    : Bool
  resetLine  : Bool
  resetRun   : Option ResetRun
  resetCause : ResetCause
  control    : ControlLink
  lens       : LensLink
  intake     : Intake

/-- The link side of a state. -/
def State.linkSide (s : State) : LinkSide :=
  ⟨s.pending, s.powered, s.resetLine, s.resetRun, s.resetCause, s.control, s.lens, s.intake⟩

/-- States of equal link sides have equal intakes. -/
theorem intake_eq_of_linkSide_eq {s t : State} (h : t.linkSide = s.linkSide) : t.intake = s.intake :=
  congrArg LinkSide.intake h

section PixelPath

variable (s : State)

@[simp] theorem setTracks_linkSide (x : PerAxis Track) : (s.setTracks x).linkSide = s.linkSide := rfl
@[simp] theorem setSlots_linkSide (x : Eight Slot) : (s.setSlots x).linkSide = s.linkSide := rfl
@[simp] theorem setSettings_linkSide (x : Settings) : (s.setSettings x).linkSide = s.linkSide := rfl
@[simp] theorem setPlanner_linkSide (x : Planner) : (s.setPlanner x).linkSide = s.linkSide := rfl
@[simp] theorem setPixel_linkSide (x : PixelPath) : (s.setPixel x).linkSide = s.linkSide := rfl
@[simp] theorem setRamps_linkSide (x : RampUnit) : (s.setRamps x).linkSide = s.linkSide := rfl
@[simp] theorem setWatches_linkSide (x : Eight Watch) : (s.setWatches x).linkSide = s.linkSide := rfl
@[simp] theorem setNotices_linkSide (x : Notices) : (s.setNotices x).linkSide = s.linkSide := rfl
@[simp] theorem setFaults_linkSide (x : Option FaultEntry) : (s.setFaults x).linkSide = s.linkSide := rfl
@[simp] theorem setOutputs_linkSide (x : Outputs) : (s.setOutputs x).linkSide = s.linkSide := rfl

@[simp] theorem applyNow_linkSide : s.applyNow.linkSide = s.linkSide := rfl

@[simp] theorem emit_linkSide (p : VideoPacket) : (s.emit p).linkSide = s.linkSide := rfl

@[simp] theorem handOver_linkSide (report : FrameReport) : (s.handOver report).linkSide = s.linkSide := rfl

@[simp] theorem announceToRamps_linkSide : s.announceToRamps.linkSide = s.linkSide := rfl

@[simp] theorem stopStream_linkSide : s.stopStream.linkSide = s.linkSide := rfl

@[simp] theorem releaseBelow_linkSide (bound : Nat) : (s.releaseBelow bound).linkSide = s.linkSide := rfl

@[simp] theorem storeRow_linkSide (c : StreamConfig) (r : Nat) (row : Row) :
    (s.storeRow c r row).linkSide = s.linkSide := rfl

@[simp] theorem reportFault_linkSide (kind : FaultKind) (frame row : Option Nat) :
    (s.reportFault kind frame row).linkSide = s.linkSide := by
  unfold State.reportFault
  split <;> simp

@[simp] theorem planBand_linkSide (c : StreamConfig) (h : FrameHeader) (b : Nat) :
    (s.planBand c h b).linkSide = s.linkSide :=
  (congrArg State.linkSide (planBand_leaves s c h b) :)

@[simp] theorem emitHeader_linkSide : s.emitHeader.linkSide = s.linkSide := by
  unfold State.emitHeader
  split
  · split <;> simp
  · rfl

@[simp] theorem emitTrailer_linkSide : s.emitTrailer.linkSide = s.linkSide := by
  unfold State.emitTrailer
  split <;> simp

@[simp] theorem handOverReport_linkSide : s.handOverReport.linkSide = s.linkSide := by
  unfold State.handOverReport
  split <;> simp

@[simp] theorem abortOutput_linkSide : s.abortOutput.linkSide = s.linkSide := by
  simp [State.abortOutput]

@[simp] theorem emitRow_linkSide (c : StreamConfig) (y : Nat) : (s.emitRow c y).linkSide = s.linkSide := by
  simp [State.emitRow]

@[simp] theorem afterStore_linkSide (c : StreamConfig) (r : Nat) : (s.afterStore c r).linkSide = s.linkSide := by
  unfold State.afterStore
  split <;> simp

/-- A fold of operations that each leave the link side alone leaves it alone. -/
theorem foldl_linkSide {α : Type} {op : State → α → State} (h : ∀ t x, (op t x).linkSide = t.linkSide) (xs : List α) :
    (xs.foldl op s).linkSide = s.linkSide :=
  List.foldlRecOn (motive := fun t => t.linkSide = s.linkSide) xs op rfl fun t ht x _ => (h t x).trans ht

@[simp] theorem emitRemaining_linkSide (c : StreamConfig) : (s.emitRemaining c).linkSide = s.linkSide :=
  foldl_linkSide s (fun t y => by simp [State.closingRow]) _

@[simp] theorem shortClose_linkSide (c : StreamConfig) (f : Frame) : (s.shortClose c f).linkSide = s.linkSide := by
  unfold State.shortClose
  dsimp only
  rw [foldl_linkSide _ (fun t r => by simp [State.completionRow]),
    foldl_linkSide _ (fun t b => planBand_linkSide t c f.header b)]
  simp

@[simp] theorem endFrame_linkSide : s.endFrame.linkSide = s.linkSide := by
  unfold State.endFrame
  dsimp only
  split <;> simp

@[simp] theorem closeFrame_linkSide : s.closeFrame.linkSide = s.linkSide := by
  unfold State.closeFrame
  split
  · dsimp only
    split <;> simp
  · rfl

@[simp] theorem closeIfOpen_linkSide : s.closeIfOpen.linkSide = s.linkSide := by
  unfold State.closeIfOpen
  split <;> simp

@[simp] theorem announce_linkSide : s.announce.linkSide = s.linkSide := by
  unfold State.announce
  split <;> simp

@[simp] theorem judgeHeader_linkSide (h : FrameHeader) : (s.judgeHeader h).linkSide = s.linkSide := by
  unfold State.judgeHeader
  dsimp only
  split <;> simp [State.startFrame]

/-- The arrival of a header leaves the link side alone (R108). -/
@[simp] theorem headerArrives_linkSide (h : FrameHeader) : (s.headerArrives h).linkSide = s.linkSide := by
  unfold State.headerArrives
  dsimp only
  split <;> simp

@[simp] theorem acceptRow_linkSide (c : StreamConfig) (f : Frame) (row : Row) :
    (s.acceptRow c f row).linkSide = s.linkSide := by
  unfold State.acceptRow
  dsimp only
  split <;> simp

@[simp] theorem extraRow_linkSide (c : StreamConfig) (f : Frame) : (s.extraRow c f).linkSide = s.linkSide := by
  unfold State.extraRow
  split <;> simp

@[simp] theorem strayRow_linkSide : s.strayRow.linkSide = s.linkSide := by
  unfold State.strayRow
  split <;> simp

/-- The arrival of a row leaves the link side alone (R109). -/
@[simp] theorem rowArrives_linkSide (row : Row) : (s.rowArrives row).linkSide = s.linkSide := by
  unfold State.rowArrives
  split
  · rfl
  · exact strayRow_linkSide s
  · split
    · split <;> simp
    · rfl

/-- The arrival of an end leaves the link side alone (R113). -/
@[simp] theorem endArrives_linkSide : s.endArrives.linkSide = s.linkSide := by
  unfold State.endArrives
  split <;> simp

end PixelPath

/-! ### The blocks that the owner of a request writes -/

section Owners

variable (q : Request) (s : State)

/-- SUBSCRIBE writes the notice state and the control link (R158, R162). -/
theorem subscribeOwner_state : ∃ n c, (subscribeOwner q s).state = (s.setNotices n).setControl c := by
  unfold subscribeOwner
  dsimp only
  split
  · exact ⟨s.notices, s.control, rfl⟩
  · exact ⟨_, _, rfl⟩

/-- The allocation of a slot writes the profile store (R6, R7). -/
theorem allocate_state (request : Nat) (p : Profile) : ∃ x, (allocate s request p).state = s.setSlots x := by
  unfold allocate
  split
  · split
    · exact ⟨_, rfl⟩
    · exact ⟨s.slots, rfl⟩
  · split
    · split
      · exact ⟨_, rfl⟩
      · exact ⟨s.slots, rfl⟩
    · exact ⟨s.slots, rfl⟩

/-- PROFILE_OPEN writes the profile store (R8). -/
theorem profileOpenOwner_state : ∃ x, (profileOpenOwner q s).state = s.setSlots x := by
  unfold profileOpenOwner
  dsimp only
  split
  · split
    · exact allocate_state s _ _
    · exact ⟨s.slots, rfl⟩
  · exact ⟨s.slots, rfl⟩

/-- The writing of a run writes the profile store (R11). -/
theorem writeRun_state (i : Fin 8) (p : Profile) (k : Section5) (first : Nat) (run : List (List Nat)) :
    ∃ x, (writeRun s i p k first run).state = s.setSlots x := by
  unfold writeRun
  split
  · exact ⟨s.slots, rfl⟩
  · split
    · exact ⟨_, rfl⟩
    · exact ⟨s.slots, rfl⟩

/-- PROFILE_WRITE writes the profile store (R11). -/
theorem profileWriteOwner_state : ∃ x, (profileWriteOwner q s).state = s.setSlots x := by
  have unchanged : ∃ x, s = s.setSlots x := ⟨s.slots, rfl⟩
  unfold profileWriteOwner
  dsimp only
  split
  · exact unchanged
  · split
    · exact unchanged
    · split
      · exact unchanged
      · split
        · exact writeRun_state s _ _ _ _ _
        · exact unchanged

/-- PROFILE_CLOSE writes the profile store (R14). -/
theorem profileCloseOwner_state : ∃ x, (profileCloseOwner q s).state = s.setSlots x := by
  have unchanged : ∃ x, s = s.setSlots x := ⟨s.slots, rfl⟩
  unfold profileCloseOwner
  split
  · exact unchanged
  · split
    · unfold closeSlot
      split
      · exact unchanged
      · split
        · exact unchanged
        · exact ⟨_, rfl⟩
    · exact unchanged

/-- PROFILE_DISCARD writes the profile store (R15). -/
theorem profileDiscardOwner_state : ∃ x, (profileDiscardOwner q s).state = s.setSlots x := by
  have unchanged : ∃ x, s = s.setSlots x := ⟨s.slots, rfl⟩
  unfold profileDiscardOwner
  split
  · exact unchanged
  · split
    · exact ⟨_, rfl⟩
    · split
      · exact unchanged
      · exact ⟨_, rfl⟩
    · exact unchanged

/-- PROFILE_QUERY writes nothing (R20). -/
theorem profileQueryOwner_state : (profileQueryOwner q s).state = s := by
  unfold profileQueryOwner
  split <;> rfl

/-- STREAM_CONFIGURE writes the pixel path (R103). -/
theorem streamConfigureOwner_state : ∃ x, (streamConfigureOwner q s).state = s.setPixel x := by
  have unchanged : ∃ x, s = s.setPixel x := ⟨s.pixel, rfl⟩
  unfold streamConfigureOwner
  dsimp only
  split
  · exact unchanged
  · split
    · exact unchanged
    · split
      · exact unchanged
      · exact ⟨_, rfl⟩

/-- STREAM_START writes the pixel path (R105). -/
theorem streamStartOwner_state : ∃ x, (streamStartOwner s).state = s.setPixel x := by
  unfold streamStartOwner
  split
  · split
    · exact ⟨_, rfl⟩
    · exact ⟨s.pixel, rfl⟩
  · exact ⟨s.pixel, rfl⟩

/-- STAGE_WRITE writes the settings stage (R127). -/
theorem stageWriteOwner_state : ∃ x, (stageWriteOwner q s).state = s.setSettings x := by
  have unchanged : ∃ x, s = s.setSettings x := ⟨s.settings, rfl⟩
  unfold stageWriteOwner
  dsimp only
  split
  · exact unchanged
  · split
    · exact unchanged
    · split
      · unfold stageSetting
        split
        · exact unchanged
        · split
          · exact unchanged
          · exact ⟨_, rfl⟩
      · exact unchanged

/-- STAGE_APPLY writes the settings stage, and the profile store where the apply takes effect at once (R17, R130). -/
theorem stageApplyOwner_state : ∃ x y, (stageApplyOwner q s).state = (s.setSlots x).setSettings y := by
  unfold stageApplyOwner
  split
  · exact ⟨s.slots, s.settings, rfl⟩
  · dsimp only
    split
    · exact ⟨_, _, rfl⟩
    · exact ⟨s.slots, _, rfl⟩

/-- RAMP writes the ramp unit (R138). -/
theorem rampOwner_state : ∃ x, (rampOwner q s).state = s.setRamps x := by
  unfold rampOwner
  split
  · exact ⟨_, rfl⟩
  · exact ⟨s.ramps, rfl⟩

/-- WATCH_SET writes the watches (R151). -/
theorem watchSetOwner_state : ∃ x, (watchSetOwner q s).state = s.setWatches x := by
  unfold watchSetOwner
  dsimp only
  split
  · exact ⟨s.watches, rfl⟩
  · split
    · exact ⟨s.watches, rfl⟩
    · exact ⟨_, rfl⟩

/-- FAULT_READ writes the fault record (R171). -/
theorem faultReadOwner_state : ∃ x, (faultReadOwner q s).state = s.setFaults x := by
  unfold faultReadOwner
  split
  · exact ⟨s.faults, rfl⟩
  · exact ⟨_, rfl⟩
  · exact ⟨s.faults, rfl⟩

/-- A RESTART that is not of a device level leaves the link side alone (R175). -/
theorem restartOwner_linkSide : (restartOwner q s).state.linkSide = s.linkSide := by
  unfold restartOwner
  split
  · simp [State.streamRestart, answer]
  · rfl

end Owners

/-! ### What a sending and the begin and end of a reset do to the intake -/

section Resets

variable (s : State)

@[simp] theorem clearOffer_intake (o : Offer) : (s.clearOffer o).intake = s.intake := by
  cases o <;> rfl

@[simp] theorem sendReply_intake : s.sendReply.intake = s.intake := by
  unfold State.sendReply
  split <;> rfl

@[simp] theorem sendNotice_intake : s.sendNotice.intake = s.intake := by
  unfold State.sendNotice
  split
  · exact clearOffer_intake s _
  · rfl

@[simp] theorem sendEnd_intake : s.sendEnd.intake = s.intake := by
  unfold State.sendEnd
  split <;> rfl

@[simp] theorem controlBytes_intake (bytes : List Byte) : (s.controlBytes bytes).intake = s.intake := by
  unfold State.controlBytes
  split <;> rfl

@[simp] theorem beginReset_intake (run : ResetRun) : (s.beginReset run).intake = s.intake := by
  rw [beginReset_eq]

/-- The end of a device-level reset empties the intake, at either level (R35). -/
@[simp] theorem finishReset_intake (run : ResetRun) : (s.finishReset run).intake = Intake.initial := by
  unfold State.finishReset
  dsimp only
  split <;> rfl

end Resets

/-! ### The taking of a request and the intake -/

section Taking

variable {kind : Byte} {q : Request} {owner : State → Answer} {s : State}

/-- The intake after the taking of a request is as it was, or as the owner leaves it. -/
theorem takeRequest_intake_cases :
    (takeRequest kind q owner s).intake = s.intake ∨
      (takeRequest kind q owner s).intake = (owner s.removeOldest).state.intake := by
  unfold takeRequest
  split
  · dsimp only
    split
    · exact .inr rfl
    · exact .inl rfl
  · exact .inl rfl

/-- A request whose owner leaves the intake alone leaves it alone. -/
theorem takeRequest_intake (h : ∀ t, (owner t).state.intake = t.intake) :
    (takeRequest kind q owner s).intake = s.intake :=
  takeRequest_intake_cases.elim id fun h' => h'.trans (h _)

/-- A request whose owner writes one block, and that not the intake, leaves the intake alone. -/
theorem takeRequest_intake_of_block {α : Type} {set : State → α → State} (hset : ∀ t x, (set t x).intake = t.intake)
    (h : ∀ t, ∃ x, (owner t).state = set t x) : (takeRequest kind q owner s).intake = s.intake :=
  takeRequest_intake fun t => let ⟨x, hx⟩ := h t; hx ▸ hset t x

theorem takeUnknown_intake : (takeUnknown kind q s).intake = s.intake := by
  unfold takeUnknown
  split <;> rfl

theorem takeRamp_intake (form : Nat) : (takeRamp form q s).intake = s.intake := by
  unfold takeRamp
  split
  · exact takeRequest_intake_of_block State.setRamps_intake (rampOwner_state q)
  · rfl

/-- The RESTART of a row that may restart the stream leaves the intake alone (R175). -/
theorem takeRequest_restart_intake : (takeRequest 0x04 q (restartOwner q) s).intake = s.intake :=
  takeRequest_intake fun t => intake_eq_of_linkSide_eq (restartOwner_linkSide q t)

theorem takeRestart_intake (level : Nat) (cause : ResetCause) : (takeRestart level cause q s).intake = s.intake := by
  unfold takeRestart takeDeviceRestart
  split
  · rfl
  · split
    · split
      · rw [beginReset_intake, removeOldest_intake]
      · rfl
    · exact takeRequest_restart_intake

end Taking

/-! ### The codes of a sample body -/

/-- The sample's codes are lens codes (R23). -/
def Sample.InRange (x : Sample) : Prop := CodeOk x.codes.focus ∧ CodeOk x.codes.zoom ∧ CodeOk x.codes.iris

/-- A two-byte element is a lens code. -/
theorem le_of_mem_codePairs {bytes : List Byte} : ∀ n ∈ codePairs bytes, n ≤ 65535 := by
  induction bytes using codePairs.induct with
  | case1 lo hi rest ih =>
    have hpair : leNat [lo, hi] ≤ 65535 := by
      have := lo.isLt
      have := hi.isLt
      simp only [leNat]
      omega
    simpa [codePairs] using ⟨hpair, ih⟩
  | case2 bytes h =>
    unfold codePairs
    simp

/-- Each axis takes its code from the codes given, or none. -/
theorem sampleCodes_inRange {codes : List Nat} (h : ∀ n ∈ codes, n ≤ 65535) (present : PerAxis Bool) (t : Nat) :
    Sample.InRange ⟨t, sampleCodes present codes⟩ := by
  have head {xs : List Nat} (hsub : ∀ n ∈ xs, n ∈ codes) : CodeOk xs.head? :=
    fun n hn => h n (hsub n (List.mem_of_head? hn))
  have absent : CodeOk none := nofun
  have tail {b : Bool} {xs : List Nat} (hsub : ∀ n ∈ xs, n ∈ codes) :
      ∀ n ∈ (if b then xs.tail else xs), n ∈ codes := by
    split
    · exact fun n hn => hsub n (List.mem_of_mem_tail hn)
    · exact hsub
  have pick {b : Bool} {xs : List Nat} (hsub : ∀ n ∈ xs, n ∈ codes) : CodeOk (if b then xs.head? else none) := by
    split
    · exact head hsub
    · exact absent
  exact ⟨pick fun _ => id, pick (tail fun _ => id), pick (tail (tail fun _ => id))⟩

/-- The sample of any body has lens codes (R23, R183). -/
theorem sampleOf_inRange (f : SampleFields) : (sampleOf f).InRange := sampleCodes_inRange le_of_mem_codePairs _ _

/-! ### All that a command can do to the intake -/

/-- What can become of an intake: it takes samples of lens codes, one after another, or a reset empties it. -/
inductive Intake.Reaches (n : Intake) : Intake → Prop where
  | unchanged : Reaches n n
  | taken {m : Intake} (k : Source) {x : Sample} : Reaches n m → x.InRange → Reaches n (m.take k x)
  | emptied : Reaches n Intake.initial

theorem Intake.Reaches.of_eq {n m : Intake} (h : m = n) : n.Reaches m := h ▸ .unchanged

/-- A record of the lens link that carries a sample carries lens codes (R24). -/
theorem lensSample_inRange {r : Record} {k : Source} {x : Sample} (h : lensSample r = some (k, x)) : x.InRange := by
  unfold lensSample at h
  split at h
  · dsimp only at h
    split at h
    · obtain ⟨_, _, heq⟩ := Option.map_eq_some_iff.mp h
      obtain ⟨rfl, rfl⟩ := Prod.mk.inj heq
      exact sampleOf_inRange _
    · cases h
  · cases h

/-- One outcome of the lens link's receiver hands the intake at most one sample (R193). -/
theorem lensEvent_reaches {n : Intake} {s : State} (h : n.Reaches s.intake) (e : Option Record) :
    n.Reaches (s.lensEvent e).intake := by
  unfold State.lensEvent
  split
  · rename_i k x hx
    obtain ⟨r, _, hr⟩ := Option.bind_eq_some_iff.mp hx
    exact h.taken k (lensSample_inRange hr)
  · exact h

/-- Bytes on the lens link hand the intake a sample for each good sample record they complete (R193). -/
theorem lensBytes_reaches (s : State) (bytes : List Byte) : s.intake.Reaches (s.lensBytes bytes).intake := by
  unfold State.lensBytes
  split
  · exact List.foldlRecOn (motive := fun t : State => s.intake.Reaches t.intake) _ _ .unchanged
      fun _ ht e _ => lensEvent_reaches ht e
  · exact .unchanged

/-- SAMPLE hands the intake at most one sample (R25). -/
theorem sampleOwner_reaches (q : Request) (s : State) : s.intake.Reaches (sampleOwner q s).state.intake := by
  have handed : s.intake.Reaches (s.intake.take .panel (sampleOf (sampleFields q.body))) :=
    .taken _ .unchanged (sampleOf_inRange _)
  unfold sampleOwner
  dsimp only
  split
  · exact .unchanged
  · split
    · exact .unchanged
    · split
      · exact .unchanged
      · split <;> exact handed

/-- All that a command can do to the intake: hand it samples of lens codes, or empty it by a reset. -/
theorem exec_intake {i : Instr} {s t : State} (h : exec i s = .next t) : s.intake.Reaches t.intake := by
  cases i with
  | identify q | status q | streamStop q | streamRead q | stageCancel q | stageRead q | framingCapture q | watchClear q
  | watchRead q =>
    cases h; exact .of_eq (takeRequest_intake fun _ => rfl)
  | subscribe q =>
    cases h; exact .of_eq (takeRequest_intake fun t => let ⟨_, _, h⟩ := subscribeOwner_state q t; (congrArg State.intake h :))
  | restartStream q =>
    cases h
    split
    · exact .of_eq takeRequest_restart_intake
    · exact .unchanged
  | restartWarm q | restartCold q => cases h; exact .of_eq (takeRestart_intake _ _)
  | profileOpen q =>
    cases h; exact .of_eq (takeRequest_intake_of_block State.setSlots_intake (profileOpenOwner_state q))
  | profileWrite q =>
    cases h; exact .of_eq (takeRequest_intake_of_block State.setSlots_intake (profileWriteOwner_state q))
  | profileClose q =>
    cases h; exact .of_eq (takeRequest_intake_of_block State.setSlots_intake (profileCloseOwner_state q))
  | profileDiscard q =>
    cases h
    exact .of_eq (takeRequest_intake_of_block State.setSlots_intake (profileDiscardOwner_state q))
  | profileQuery q =>
    cases h; exact .of_eq (takeRequest_intake fun t => congrArg State.intake (profileQueryOwner_state q t))
  | streamConfigure q =>
    cases h
    exact .of_eq (takeRequest_intake_of_block State.setPixel_intake (streamConfigureOwner_state q))
  | streamStart q =>
    cases h; exact .of_eq (takeRequest_intake_of_block State.setPixel_intake streamStartOwner_state)
  | stageWrite q =>
    cases h; exact .of_eq (takeRequest_intake_of_block State.setSettings_intake (stageWriteOwner_state q))
  | stageApply q =>
    cases h
    exact .of_eq (takeRequest_intake fun t => let ⟨_, _, h⟩ := stageApplyOwner_state q t; (congrArg State.intake h :))
  | rampContinue q | rampRestart q | rampNow q | rampHalt q => cases h; exact .of_eq (takeRamp_intake _)
  | watchSet q =>
    cases h; exact .of_eq (takeRequest_intake_of_block State.setWatches_intake (watchSetOwner_state q))
  | faultRead q =>
    cases h; exact .of_eq (takeRequest_intake_of_block State.setFaults_intake (faultReadOwner_state q))
  | sample q =>
    cases h
    rcases takeRequest_intake_cases (kind := 0x20) (q := q) (owner := sampleOwner q) (s := s) with h | h
    · exact .of_eq h
    · exact h ▸ sampleOwner_reaches q s.removeOldest
  | unknownKind kind q => cases h; exact .of_eq takeUnknown_intake
  | controlRecordArrival bytes | notReadyRecord bytes => cases h; exact .of_eq (controlBytes_intake s bytes)
  | lensRecordArrival bytes => cases h; exact lensBytes_reaches s bytes
  | frameHeader x =>
    cases h
    split
    · exact .of_eq (intake_eq_of_linkSide_eq (headerArrives_linkSide s x))
    · exact .unchanged
  | rampComplete x =>
    cases h
    split
    · exact .of_eq (intake_eq_of_linkSide_eq (headerArrives_linkSide s x))
    · exact .unchanged
  | inputRow row =>
    cases h
    split
    · exact .of_eq (intake_eq_of_linkSide_eq (rowArrives_linkSide s row))
    · exact .unchanged
  | frameEnd =>
    cases h
    split
    · exact .of_eq (intake_eq_of_linkSide_eq (endArrives_linkSide s))
    · exact .unchanged
  | sendReply => cases h; exact .of_eq (sendReply_intake s)
  | sendNotice => cases h; exact .of_eq (sendNotice_intake s)
  | sendEnd => cases h; exact .of_eq (sendEnd_intake s)
  | powerOn =>
    cases h
    split
    · exact .unchanged
    · exact .emptied
  | powerLoss =>
    cases h
    split
    · exact .emptied
    · exact .unchanged
  | resetLineAssert =>
    cases h
    split
    · exact .unchanged
    · split
      · exact .of_eq (beginReset_intake s ⟨.resetLine, 0⟩)
      · exact .unchanged
  | resetLineRelease =>
    cases h
    dsimp only
    split
    · split
      · rw [finishReset_intake]; exact .emptied
      · exact .unchanged
    · exact .unchanged
  | resetEnd =>
    cases h
    split
    · rw [finishReset_intake]; exact .emptied
    · exact .unchanged

/-- All that a step can do to the intake. -/
theorem step_intake {s t : State} (h : step s = .next t) : s.intake.Reaches t.intake := by
  unfold step at h
  split at h
  · cases h; exact .unchanged
  · exact (exec_intake h :)

/-! ### The histories -/

/-- The invariant of the histories, source by source. -/
theorem historyInv_iff {s : State} : s.HistoryInv ↔ ∀ k, HistoryOk (s.intake.histories.get k) := by
  refine ⟨fun ⟨hmount, hmotor, hpanel⟩ k => ?_, fun h => ⟨h .mount, h .motor, h .panel⟩⟩
  cases k with
  | mount => exact hmount
  | motor => exact hmotor
  | panel => exact hpanel

/-- A sample is in order when it is later than the newest of its history, if there is one (R26). -/
theorem inOrder_iff {history : List Sample} {x : Sample} :
    inOrder history x = true ↔ ∀ y ∈ history.getLast?, y.time < x.time := by
  unfold inOrder newestTime
  cases history.getLast? <;> simp

/-- In a history in time order, a sample later than the newest is later than all (R28). -/
theorem time_lt_of_inOrder {history : List Sample} {x : Sample} (hsorted : history.Pairwise fun a b => a.time < b.time)
    (hx : inOrder history x = true) : ∀ y ∈ history, y.time < x.time := by
  intro y hy
  obtain ⟨older, newest, rfl⟩ := history.eq_nil_or_concat'.resolve_left (List.ne_nil_of_mem hy)
  have hnewest : newest.time < x.time := inOrder_iff.mp hx newest (by simp)
  rcases List.mem_append.mp hy with hy | hy
  · exact ((List.pairwise_append.mp hsorted).2.2 y hy newest (by simp)).trans hnewest
  · rwa [List.mem_singleton.mp hy]

/-- The part of a history that stays when a sample joins it has room for the sample (R27, R28). -/
theorem kept_length_le {history : List Sample} (h : history.length ≤ 8) :
    (if history.length < Config.historyDepth then history else history.tail).length ≤ 7 := by
  split
  · rename_i hroom
    exact Nat.le_of_lt_succ hroom
  · rw [List.length_tail]
    omega

/-- What stays of a history is a part of it in its order. -/
theorem kept_sublist (history : List Sample) :
    (if history.length < Config.historyDepth then history else history.tail).Sublist history := by
  split
  · exact .refl _
  · exact List.tail_sublist _

/-- A sample in order with lens codes keeps its history's invariant as it joins (R23, R27, R28). -/
theorem addSample_historyOk {history : List Sample} {x : Sample} (h : HistoryOk history)
    (hx : inOrder history x = true) (hcodes : x.InRange) : HistoryOk (addSample history x) := by
  obtain ⟨hlength, hsorted, hrange⟩ := h
  have hsub := kept_sublist history
  have hlater := time_lt_of_inOrder hsorted hx
  refine ⟨?_, ?_, ?_⟩
  · rw [addSample, List.length_append]
    exact Nat.succ_le_succ (kept_length_le hlength)
  · refine List.pairwise_append.mpr ⟨hsorted.sublist hsub, List.pairwise_singleton _ _, fun a ha b hb => ?_⟩
    rw [List.mem_singleton.mp hb]
    exact hlater a (hsub.subset ha)
  · intro y hy
    rcases List.mem_append.mp hy with hy | hy
    · exact hrange y (hsub.subset hy)
    · rw [List.mem_singleton.mp hy]; exact hcodes

/-- The taking of a sample with lens codes keeps the invariant of every history (R26 to R29). -/
theorem take_historyOk {n : Intake} (h : ∀ j, HistoryOk (n.histories.get j)) (k : Source) {x : Sample}
    (hcodes : x.InRange) (j : Source) : HistoryOk ((n.take k x).histories.get j) := by
  unfold Intake.take
  dsimp only
  split
  · rename_i hx
    by_cases hj : j = k
    · subst hj
      rw [PerSource.get_set_same]
      exact addSample_historyOk (h j) hx hcodes
    · rw [PerSource.get_set_ne _ _ hj]
      exact h j
  · exact h j

/-- Whatever becomes of an intake, its histories keep their invariant (R28, R35). -/
theorem Intake.Reaches.historyOk {n m : Intake} (h : n.Reaches m) (hn : ∀ k, HistoryOk (n.histories.get k)) :
    ∀ k, HistoryOk (m.histories.get k) := by
  induction h with
  | unchanged => exact hn
  | taken k _ hcodes ih => exact take_historyOk ih k hcodes
  | emptied =>
    intro k
    have hempty : Intake.initial.histories.get k = [] := by cases k <;> rfl
    rw [hempty]
    exact ⟨Nat.zero_le _, .nil, nofun⟩

/-- Settles O19, from all that a step can do to the intake. -/
theorem historyInvariantKept : Obligations.HistoryInvariantKept := fun _ _ hs hstep =>
  historyInv_iff.mpr ((step_intake hstep).historyOk (historyInv_iff.mp hs))

/-! ### The fields of a sample body -/

/-- A field's first byte is its least significant (00_scope 5.7); past the end of the body it counts as 0. -/
theorem fieldAt_succ (body : List Byte) (i k : Nat) :
    fieldAt body i (k + 1) = (body.getD i 0).toNat + 256 * fieldAt body (i + 1) k := by
  unfold fieldAt
  rcases Nat.lt_or_ge i body.length with hi | hi
  · rw [List.drop_eq_getElem_cons hi, List.take_succ_cons, leNat, List.getD_eq_getElem _ _ hi]
  · rw [List.drop_of_length_le hi, List.drop_of_length_le (Nat.le_succ_of_le hi), List.getD_eq_default _ _ hi]
    simp [leNat]

/-- A field of no bytes. -/
theorem fieldAt_zero (body : List Byte) (i : Nat) : fieldAt body i 0 = 0 := rfl

/-- The measurement time of a sample body in its three two-byte words (R183). -/
theorem fieldAt_six (body : List Byte) (i : Nat) :
    fieldAt body i 6 = wordOf body i + 65536 * wordOf body (i + 2) + 4294967296 * wordOf body (i + 4) := by
  simp only [fieldAt_succ, fieldAt_zero, wordOf, Nat.add_assoc, Nat.reduceAdd]
  omega

/-- The first element of the codes from offset `i` is the word that stands there (R183). -/
theorem codePairs_drop {body : List Byte} {i : Nat} (h : i + 2 ≤ body.length) :
    codePairs (body.drop i) = wordOf body i :: codePairs (body.drop (i + 2)) := by
  rw [List.drop_eq_getElem_cons (by omega : i < body.length),
    List.drop_eq_getElem_cons (by omega : i + 1 < body.length), codePairs, wordOf,
    List.getD_eq_getElem _ _ (by omega), List.getD_eq_getElem _ _ (by omega)]
  simp [leNat]

/-- The axes of a presence byte, bit by bit (R183). -/
theorem presentAxes_fieldAt (body : List Byte) :
    presentAxes (fieldAt body 1 1) =
      ⟨(body.getD 1 0).getLsbD 0, (body.getD 1 0).getLsbD 1, (body.getD 1 0).getLsbD 2⟩ := by
  rw [fieldAt_succ, fieldAt_zero]
  rfl

/-- The axes of a body's presence set in number. -/
theorem presentCount_fieldAt (body : List Byte) : presentCount (fieldAt body 1 1) = axesNamed body := by
  rw [presentCount, presentAxes_fieldAt, axesNamed]
  generalize (body.getD 1 0).getLsbD 0 = focus
  generalize (body.getD 1 0).getLsbD 1 = zoom
  generalize (body.getD 1 0).getLsbD 2 = iris
  revert focus zoom iris
  decide

/-- A presence set is refused when it is empty or names a member past the three axes (R24, R25). -/
theorem presenceGood_iff {presence : Nat} : presenceGood presence = true ↔ ¬ (presence = 0 ∨ 8 ≤ presence) := by
  simp only [presenceGood, decide_eq_true_eq]
  omega

/-- The length check of R24 and R25, for a body with its first eight bytes. -/
theorem sampleLengthGood_iff {body : List Byte} (h : 8 ≤ body.length) :
    sampleLengthGood (sampleFields body) = true ↔ body.length = 8 + 2 * axesNamed body := by
  simp only [sampleLengthGood, sampleFields, presentCount_fieldAt, List.length_drop, beq_iff_eq]
  omega

/-- The codes that follow those of an axis, which has one when it is present (R183). -/
theorem codePairs_after {body : List Byte} {present : Bool} {i : Nat} (h : i + 2 * present.toNat ≤ body.length) :
    (if present then (codePairs (body.drop i)).tail else codePairs (body.drop i)) =
      codePairs (body.drop (i + 2 * present.toNat)) := by
  cases present with
  | false => rfl
  | true => rw [if_pos rfl, codePairs_drop h, List.tail_cons]; rfl

/-- The code of an axis whose codes begin at offset `i` is the word that stands there (R183). -/
theorem codePairs_head {body : List Byte} {present : Bool} {i : Nat} (h : i + 2 * present.toNat ≤ body.length) :
    (if present then (codePairs (body.drop i)).head? else none) = if present then some (wordOf body i) else none := by
  cases present with
  | false => rfl
  | true => rw [if_pos rfl, if_pos rfl, codePairs_drop h, List.head?_cons]

/-- The codes of a body whose codes are as many as its axes are the words that stand in it, each axis after those present before
it (R183). -/
theorem sampleCodes_eq {body : List Byte} {focus zoom iris : Bool}
    (h : 8 + 2 * focus.toNat + 2 * zoom.toNat + 2 * iris.toNat ≤ body.length) :
    sampleCodes ⟨focus, zoom, iris⟩ (codePairs (body.drop 8)) =
      { focus := if focus then some (wordOf body 8) else none
        zoom := if zoom then some (wordOf body (8 + 2 * focus.toNat)) else none
        iris := if iris then some (wordOf body (8 + 2 * focus.toNat + 2 * zoom.toNat)) else none } := by
  simp only [sampleCodes, codePairs_after (by omega : 8 + 2 * focus.toNat ≤ body.length),
    codePairs_after (by omega : 8 + 2 * focus.toNat + 2 * zoom.toNat ≤ body.length),
    codePairs_head (by omega : 8 + 2 * focus.toNat ≤ body.length),
    codePairs_head (by omega : 8 + 2 * focus.toNat + 2 * zoom.toNat ≤ body.length), codePairs_head h]

/-- The codes of a sample body of the right length are those that its bytes carry (R23, R183). -/
theorem sampleCodes_fieldAt {body : List Byte} (h : body.length = 8 + 2 * axesNamed body) :
    sampleCodes (presentAxes (fieldAt body 1 1)) (codePairs (body.drop 8)) = (wireSample body).codes := by
  have hzoom (focus : Bool) : 8 + 2 * focus.toNat = if focus then 10 else 8 := by cases focus <;> rfl
  have hiris (focus zoom : Bool) :
      8 + 2 * focus.toNat + 2 * zoom.toNat = if focus ∧ zoom then 12 else if focus ∨ zoom then 10 else 8 := by
    revert focus zoom; decide
  rw [presentAxes_fieldAt, sampleCodes_eq (by unfold axesNamed at h; omega), hiris, hzoom]
  rfl

/-- The sample that the intake makes of a body of the right length is the one that its bytes carry (R23, R183). -/
theorem sampleOf_sampleFields {body : List Byte} (h : body.length = 8 + 2 * axesNamed body) :
    sampleOf (sampleFields body) = wireSample body := by
  have htime : (sampleFields body).time = (wireSample body).time := fieldAt_six body 2
  have hcodes := sampleCodes_fieldAt h
  exact congrArg₂ Sample.mk htime hcodes

/-! ### The judging of SAMPLE -/

/-- A sample that is not in order is one no later than the newest of its history (R25, R26). -/
theorem inOrder_eq_false_iff {history : List Sample} {x : Sample} :
    inOrder history x = false ↔ (history.getLast?.any fun y => decide (x.time ≤ y.time)) = true := by
  rw [← Bool.not_eq_true, inOrder_iff]
  cases history.getLast? <;> simp

/-- A sample in order joins its history (R27). -/
theorem take_of_inOrder {n : Intake} {k : Source} {x : Sample} (h : inOrder (n.histories.get k) x = true) :
    n.take k x = { n with histories := n.histories.set k (addSample (n.histories.get k) x) } := by
  rw [Intake.take, if_pos h]

/-- A sample out of order is counted (R26, R29). -/
theorem take_of_not_inOrder {n : Intake} {k : Source} {x : Sample} (h : inOrder (n.histories.get k) x = false) :
    n.take k x = { n with outOfOrder := n.outOfOrder.set k (countUp (n.outOfOrder.get k)) } := by
  rw [Intake.take, if_neg (by simp [h]), saturatingSucc_countMax]

/-- The taking of a record and a change of the intake do not meet. -/
theorem removeOldest_setIntake (s : State) (x : Intake) :
    s.removeOldest.setIntake x = (s.setIntake x).removeOldest := rfl

section Judging

variable {q : Request} (s : State)

/-- A SAMPLE of another source than PANEL is refused (R25). -/
theorem sampleOwner_of_source (hsource : fieldAt q.body 0 1 ≠ 2) : sampleOwner q s = refuse .badValue s :=
  if_pos hsource

/-- A SAMPLE with a bad presence set is refused (R25). -/
theorem sampleOwner_of_presence (hsource : fieldAt q.body 0 1 = 2)
    (hpresence : fieldAt q.body 1 1 = 0 ∨ 8 ≤ fieldAt q.body 1 1) : sampleOwner q s = refuse .badValue s := by
  have hbad : presenceGood (sampleFields q.body).presence = false :=
    Bool.not_eq_true _ ▸ fun hgood => presenceGood_iff.mp hgood hpresence
  have hpanel : ¬ (sampleFields q.body).source ≠ 2 := not_not.mpr hsource
  rw [sampleOwner, if_neg hpanel, if_pos (by rw [hbad]; rfl)]

variable (hsource : fieldAt q.body 0 1 = 2) (hpresence : ¬ (fieldAt q.body 1 1 = 0 ∨ 8 ≤ fieldAt q.body 1 1))
  (h8 : 8 ≤ q.body.length)
include hsource hpresence h8

/-- A SAMPLE whose length does not agree with its presence set is refused (R25). -/
theorem sampleOwner_of_length (hlength : q.body.length ≠ 8 + 2 * axesNamed q.body) :
    sampleOwner q s = refuseLength q s := by
  have hgood : presenceGood (sampleFields q.body).presence = true := presenceGood_iff.mpr hpresence
  have hbad : sampleLengthGood (sampleFields q.body) = false :=
    Bool.not_eq_true _ ▸ fun hgood => hlength ((sampleLengthGood_iff h8).mp hgood)
  have hpanel : ¬ (sampleFields q.body).source ≠ 2 := not_not.mpr hsource
  rw [sampleOwner, if_neg hpanel, if_neg (by rw [hgood]; decide), if_pos (by rw [hbad]; rfl)]

/-- A SAMPLE whose fields are good is handed to the intake, and answered by its order (R25). -/
theorem sampleOwner_of_good (hlength : q.body.length = 8 + 2 * axesNamed q.body) :
    sampleOwner q s =
      let t := s.setIntake (s.intake.take .panel (wireSample q.body))
      if inOrder s.intake.histories.panel (wireSample q.body) then
        answer .ok
          (leBytes 1 t.intake.histories.panel.length ++ encodeFlag (decide (8 ≤ s.intake.histories.panel.length))) t
      else answer .order [] t := by
  have hgood : presenceGood (sampleFields q.body).presence = true := presenceGood_iff.mpr hpresence
  have hpanel : ¬ (sampleFields q.body).source ≠ 2 := not_not.mpr hsource
  rw [sampleOwner, if_neg hpanel, if_neg (by rw [hgood]; decide),
    if_neg (by rw [(sampleLengthGood_iff h8).mpr hlength]; decide), sampleOf_sampleFields hlength]

end Judging

/-- Settles O20, check by check of R25. -/
theorem sampleRequestIsJudged : Obligations.SampleRequestIsJudged := by
  intro q s ht n history x joined
  have htime : fieldAt q.body 2 6 = x.time := fieldAt_six q.body 2
  refine congrArg Host.Outcome.next (?_ : takeRequest 0x20 q (sampleOwner q) s = _)
  by_cases hshort : n < 8
  · rw [if_pos hshort]
    exact takeRequest_of_wrong_length ht (decide_eq_false (Nat.not_le.mpr hshort))
  have h8 : 8 ≤ q.body.length := Nat.not_lt.mp hshort
  have hl : lengthAgrees 0x20 q.body.length = true := decide_eq_true h8
  rw [if_neg hshort, htime]
  split_ifs with hsource hpresence hlength hlate
  · exact takeRequest_of_refusal ht hl (sampleOwner_of_source _ hsource)
  · exact takeRequest_of_refusal ht hl (sampleOwner_of_presence _ (not_not.mp hsource) hpresence)
  · exact takeRequest_of_refusal ht hl (sampleOwner_of_length _ (not_not.mp hsource) hpresence h8 hlength)
  · have hx : inOrder history x = false := inOrder_eq_false_iff.mpr hlate
    have ho := sampleOwner_of_good s.removeOldest (not_not.mp hsource) hpresence h8 (not_not.mp hlength)
    rw [removeOldest_intake, if_neg (by rw [hx]; decide), take_of_not_inOrder (n := s.intake) (k := .panel) hx,
      removeOldest_setIntake] at ho
    exact takeRequest_of_answer ht hl ho
  · have hx : inOrder history x = true := by rwa [← Bool.not_eq_false, inOrder_eq_false_iff]
    have ho := sampleOwner_of_good s.removeOldest (not_not.mp hsource) hpresence h8 (not_not.mp hlength)
    rw [removeOldest_intake, if_pos hx, take_of_inOrder (n := s.intake) (k := .panel) hx, removeOldest_setIntake] at ho
    exact takeRequest_of_answer ht hl ho

end Sys2Proof.Machine

/-! PROOFS. The lens tracker (R39 to R50). First the arithmetic of R41 and R42 and the samples that carry an axis, then what each
of the tracker's functions gives, said once and in the order of the model; then the statement. -/

namespace Sys2Proof.Machine

/-! ### Interpolation -/

/-- An interpolation between two codes is not negative, so the model's natural number is the exact value (R41). -/
theorem interpolate_cast {a b num den : Nat} (hden : 0 < den) (hnum : num ≤ den) :
    (interpolate a b num den : Int) = a + (2 * (((b : Int) - a) * num) + den) / (2 * den) := by
  have hdrop : (a : Int) * num ≤ a * den := mul_le_mul_of_nonneg_left (by omega) (by omega)
  have hrise : 0 ≤ (b : Int) * num := by positivity
  have hround : -(a : Int) ≤ (2 * (((b : Int) - a) * num) + den) / (2 * den) := by
    rw [Int.le_ediv_iff_mul_le (by omega)]
    linarith
  rw [interpolate, roundDiv, Int.toNat_of_nonneg (by omega)]

/-! ### The samples that carry an axis -/

/-- A pair is among the samples that carry an axis when a sample of the history has that time and that code (R30). -/
theorem mem_carrying {a : Axis} {history : List Sample} {time code : Nat} :
    (time, code) ∈ carrying a history ↔ ∃ y ∈ history, y.time = time ∧ y.codes.get a = some code := by
  simp only [carrying, List.mem_filterMap, Option.map_eq_some_iff, Prod.mk.injEq]
  exact exists_congr fun y => and_congr_right fun _ =>
    ⟨fun ⟨_, hcode, htime, heq⟩ => ⟨htime, heq ▸ hcode⟩, fun ⟨htime, hcode⟩ => ⟨code, hcode, htime, rfl⟩⟩

/-- The samples of a history that carry an axis are in time order as the history is (R28, R30). -/
theorem carrying_pairwise (a : Axis) {history : List Sample} (h : HistoryOk history) :
    (carrying a history).Pairwise fun x y => x.1 < y.1 := by
  obtain ⟨-, hsorted, -⟩ := h
  refine List.Pairwise.filterMap _ (fun y z hyz p hp q hq => ?_) hsorted
  obtain ⟨_, -, rfl⟩ := Option.map_eq_some_iff.mp hp
  obtain ⟨_, -, rfl⟩ := Option.map_eq_some_iff.mp hq
  exact hyz

/-! ### The value of a FRESH source -/

/-- The samples before one that is not after the band time do not matter to the value of a FRESH source (R41). -/
theorem freshValue_append {t tb vb : Nat} {rest : List (Nat × Nat)} (hb : tb ≤ t) :
    ∀ {before : List (Nat × Nat)}, (∀ x ∈ before, x.1 < t) →
      freshValue t (before ++ (tb, vb) :: rest) = freshValue t ((tb, vb) :: rest)
  | [], _ => rfl
  | [(ta, va)], h => by
    have ha : ta < t := h (ta, va) (List.mem_singleton_self _)
    rw [List.singleton_append, freshValue, if_neg (Nat.not_le.mpr ha), if_neg (Nat.not_lt.mpr hb)]
  | (ta, va) :: (tc, vc) :: before, h => by
    have ha : ta < t := h (ta, va) List.mem_cons_self
    have hc : tc < t := h (tc, vc) (List.mem_cons_of_mem _ List.mem_cons_self)
    rw [List.cons_append, List.cons_append, freshValue, if_neg (Nat.not_le.mpr ha), if_neg (Nat.not_lt.mpr hc.le)]
    exact freshValue_append hb fun x hx => h x (List.mem_cons_of_mem _ hx)

/-- A band time not after the oldest sample has the oldest code (R41). -/
theorem freshValue_of_le_head {t ta va : Nat} {xs : List (Nat × Nat)} (hhead : xs.head? = some (ta, va)) (ht : t ≤ ta) :
    freshValue t xs = va := by
  obtain ⟨rest, rfl⟩ := List.head?_eq_some_iff.mp hhead
  cases rest with
  | nil => rfl
  | cons => exact if_pos ht

/-- A band time strictly between two neighbours has the interpolation between their codes (R41). -/
theorem freshValue_of_between {t ta va tb vb : Nat} {rest : List (Nat × Nat)} (ha : ta < t) (hb : t < tb) :
    freshValue t ((ta, va) :: (tb, vb) :: rest) = interpolate va vb (t - ta) (tb - ta) := by
  rw [freshValue, if_neg (Nat.not_le.mpr ha), if_pos hb]

section Fresh

variable {xs : List (Nat × Nat)} (hsorted : xs.Pairwise fun x y => x.1 < y.1)
include hsorted

/-- At the time of a sample a FRESH source has that sample's code (R41). -/
theorem freshValue_of_mem {t v : Nat} (h : (t, v) ∈ xs) : freshValue t xs = v := by
  obtain ⟨before, rest, rfl⟩ := List.append_of_mem h
  obtain ⟨-, -, hbefore⟩ := List.pairwise_append.mp hsorted
  rw [freshValue_append le_rfl fun x hx => hbefore x hx (t, v) List.mem_cons_self, freshValue_of_le_head rfl le_rfl]

/-- Between two neighbouring samples a FRESH source has the interpolation between their codes (R41). -/
theorem freshValue_of_neighbours {t i ta va tb vb : Nat} (hi : xs[i]? = some (ta, va)) (hj : xs[i + 1]? = some (tb, vb))
    (ha : ta < t) (hb : t < tb) :
    (freshValue t xs : Int) =
      va + (2 * (((vb : Int) - va) * ((t : Int) - ta)) + (tb - ta)) / (2 * ((tb : Int) - ta)) := by
  obtain ⟨hilt, hix⟩ := List.getElem?_eq_some_iff.mp hi
  obtain ⟨hjlt, hjx⟩ := List.getElem?_eq_some_iff.mp hj
  have hxs : xs = xs.take i ++ (ta, va) :: (tb, vb) :: xs.drop (i + 2) := by
    rw [← hix, ← hjx, ← List.drop_eq_getElem_cons hjlt, ← List.drop_eq_getElem_cons hilt, List.take_append_drop]
  rw [hxs] at hsorted ⊢
  obtain ⟨-, -, hbefore⟩ := List.pairwise_append.mp hsorted
  rw [freshValue_append ha.le fun x hx => (hbefore x hx (ta, va) List.mem_cons_self).trans ha,
    freshValue_of_between ha hb, interpolate_cast (by omega) (by omega), Nat.cast_sub ha.le,
    Nat.cast_sub (ha.trans hb).le]

end Fresh

/-! ### The value of a COASTING source -/

/-- A COASTING source with one sample has its code (R42). -/
theorem coastValue_of_only {t tn vn : Nat} {xs : List (Nat × Nat)} (h : xs = [(tn, vn)]) :
    coastValue t xs.reverse = vn := by
  rw [h]
  rfl

/-- A COASTING source with two samples or more is extrapolated from the newest two, within the lens codes (R42). -/
theorem coastValue_cast {t t1 v1 t0 v0 : Nat} (h : t0 < t1) (older : List (Nat × Nat)) :
    (coastValue t ((t1, v1) :: (t0, v0) :: older) : Int) =
      max 0 (min 65535 (v1 + (2 * (((v1 : Int) - v0) * ((t : Int) - t1)) + (t1 - t0)) / (2 * ((t1 : Int) - t0)))) := by
  simp only [coastValue, roundDiv, Nat.cast_sub h.le]
  generalize (v1 : Int) + _ / _ = x
  split_ifs <;> omega

/-- The extrapolation of a COASTING source, its samples oldest first (R42). -/
theorem coastValue_of_newest_two {t tn vn t0 v0 : Nat} {xs before : List (Nat × Nat)}
    (hsorted : xs.Pairwise fun x y => x.1 < y.1) (h : xs = before ++ [(t0, v0), (tn, vn)]) :
    (coastValue t xs.reverse : Int) =
      max 0 (min 65535 (vn + (2 * (((vn : Int) - v0) * ((t : Int) - tn)) + (tn - t0)) / (2 * ((tn : Int) - t0)))) := by
  subst h
  obtain ⟨-, hpair, -⟩ := List.pairwise_append.mp hsorted
  have hlt : t0 < tn := List.rel_of_pairwise_cons hpair (List.mem_singleton_self (tn, vn))
  rw [List.reverse_append]
  exact coastValue_cast hlt before.reverse

/-! ### The judging of a source -/

/-- What a judged source is: FRESH up to its newest sample, COASTING up to the coast limit after it, then HOLDING (R41 to
R43). -/
theorem judgeSource_of_some {coast lost t : Nat} {xs : List (Nat × Nat)} {r : AxisState × Nat}
    (h : judgeSource coast lost t xs = some r) :
    ∃ tn vn, xs.getLast? = some (tn, vn) ∧
      (t ≤ tn → r = (.fresh, freshValue t xs)) ∧
      (tn < t → t ≤ tn + coast → r = (.coasting, coastValue t xs.reverse)) ∧
      (tn + coast < t → r = (.holding, vn)) := by
  unfold judgeSource at h
  split at h
  · cases h
  next tn vn hlast =>
    refine ⟨tn, vn, hlast, fun hfresh => ?_, fun hlate hcoast => ?_, fun hlate => ?_⟩
    · rw [if_pos hfresh] at h
      exact (Option.some.inj h).symm
    · rw [if_neg (by omega), if_pos (by omega)] at h
      exact (Option.some.inj h).symm
    · rw [if_neg (by omega), if_neg (by omega)] at h
      exact (Option.some.inj (Option.ite_none_right_eq_some.mp h).2).symm

/-- A source is not judged when it has no sample or its newest is older than the lost limit; the coast limit is not above the
lost limit (R40, R44). -/
theorem judgeSource_eq_none_iff {coast lost t : Nat} {xs : List (Nat × Nat)} (h : coast ≤ lost) :
    judgeSource coast lost t xs = none ↔ ∀ x ∈ xs.getLast?, x.1 + lost < t := by
  unfold judgeSource
  cases xs.getLast? with
  | none => exact iff_of_true rfl nofun
  | some x =>
    simp only [Option.mem_some_iff, forall_eq']
    split_ifs with hfresh hcoast hlost
    · exact iff_of_false nofun (by omega)
    · exact iff_of_false nofun (by omega)
    · exact iff_of_false nofun (by omega)
    · exact iff_of_true rfl (by omega)

/-! ### The choice of the source -/

/-- The source, state and value that an evaluation at band time `t` chooses for an axis (R45). -/
def State.choice (s : State) (t : Nat) (a : Axis) : Option (Source × AxisState × Nat) :=
  chooseSource s.settings.active s.intake.histories a t (s.settings.active.order a)

/-- The judging of one source of an axis at band time `t`. -/
def State.judged (s : State) (a : Axis) (t : Nat) (k : Source) : Option (AxisState × Nat) :=
  judgeSource s.settings.active.coastLimit s.settings.active.lostLimit t (carrying a (s.intake.histories.get k))

/-- A source is not judged exactly when it is LOST (R40). -/
theorem judged_eq_none_iff {s : State} (h : s.SettingsInv) {a : Axis} {t : Nat} {k : Source} :
    s.judged a t k = none ↔ s.SourceLost a t k := by
  obtain ⟨-, -, hlimits⟩ := h
  exact judgeSource_eq_none_iff hlimits

/-- The choice searches the active order for a source that is judged (R45). -/
theorem choice_eq_findSome? (s : State) (t : Nat) (a : Axis) :
    s.choice t a = (s.settings.active.order a).findSome? fun k => (s.judged a t k).map (Prod.mk k) := rfl

/-- The choice is the first source of the active order that is judged, with its judgement (R45). -/
theorem choice_eq_some_iff {s : State} {t : Nat} {a : Axis} {k : Source} {r : AxisState × Nat} :
    s.choice t a = some (k, r) ↔
      ∃ before after, s.settings.active.order a = before ++ k :: after ∧ s.judged a t k = some r ∧
        ∀ j ∈ before, s.judged a t j = none := by
  simp only [choice_eq_findSome?, List.findSome?_eq_some_iff, Option.map_eq_some_iff, Option.map_eq_none_iff,
    Prod.mk.injEq]
  constructor
  · rintro ⟨before, _, after, horder, ⟨_, hr, rfl, rfl⟩, hbefore⟩
    exact ⟨before, after, horder, hr, hbefore⟩
  · rintro ⟨before, after, horder, hr, hbefore⟩
    exact ⟨before, k, after, horder, ⟨r, hr, rfl, rfl⟩, hbefore⟩

/-- Nothing is chosen when no source of the active order is judged (R45). -/
theorem choice_eq_none_iff {s : State} {t : Nat} {a : Axis} :
    s.choice t a = none ↔ ∀ k ∈ s.settings.active.order a, s.judged a t k = none := by
  simp only [choice_eq_findSome?, List.findSome?_eq_none_iff, Option.map_eq_none_iff]

/-! ### The writing of a track -/

section Writing

variable (x : Track) (choice : Option (Source × AxisState × Nat))

/-- What an evaluation writes: the source chosen with its state and value, or, with none chosen, the held value as it stood, in
LOST or NONE; and the source and state as they stood (R45 to R47). -/
theorem Track.write_eq :
    x.write choice =
      { source := choice.map Prod.fst
        state := (choice.map fun r => r.2.1).getD (if x.held = none then .none else .lost)
        held := (choice.map fun r => r.2.2).or x.held
        prevSource := x.source
        prevState := x.state } := by
  unfold Track.write
  cases choice with
  | some => rfl
  | none => cases x.held <;> rfl

/-- The source chosen becomes the source in use (R45). -/
@[simp] theorem Track.write_source : (x.write choice).source = choice.map Prod.fst := by rw [Track.write_eq]

/-- The source in use as it stood becomes the previous one (R46). -/
@[simp] theorem Track.write_prevSource : (x.write choice).prevSource = x.source := by rw [Track.write_eq]

/-- The state as it stood becomes the previous one (R46). -/
@[simp] theorem Track.write_prevState : (x.write choice).prevState = x.state := by rw [Track.write_eq]

/-- With no source chosen the held value stands, in LOST, or is absent, in NONE (R47). -/
theorem Track.write_none :
    (x.write none).held = x.held ∧ (x.write none).state = if x.held = none then .none else .lost := by
  rw [Track.write_eq]
  exact ⟨rfl, rfl⟩

/-- A source chosen gives its state and its value (R46). -/
theorem Track.write_some (k : Source) (r : AxisState × Nat) :
    (x.write (some (k, r))).state = r.1 ∧ (x.write (some (k, r))).held = some r.2 := ⟨rfl, rfl⟩

/-- The writing changes the source in use exactly when it leaves another than the one that stood (R50). -/
theorem Track.changedSource_write_iff : (x.write choice).changedSource = true ↔ (x.write choice).source ≠ x.source := by
  rw [Track.changedSource, bne_iff_ne, Track.write_prevSource]

end Writing

/-! ### The evaluation -/

/-- An evaluation writes the choice for each axis into its track (R39). -/
theorem evaluated_get (s : State) (t : Nat) (a : Axis) :
    (evaluated s t).get a = (s.tracks.get a).write (s.choice t a) := by
  cases a <;> rfl

/-- The track of an axis after an evaluation (R39). -/
theorem evaluate_tracks_get (s : State) (t : Nat) (a : Axis) :
    (s.evaluate t).tracks.get a = (s.tracks.get a).write (s.choice t a) := evaluated_get s t a

/-- A test holds for one of the three values when it holds for that of some axis. -/
theorem PerAxis.any_toList {α : Type} (p : PerAxis α) (f : α → Bool) :
    p.toList.any f = true ↔ ∃ a, f (p.get a) = true := by
  simp only [PerAxis.toList, List.any_cons, List.any_nil, Bool.or_eq_true, Bool.or_false]
  constructor
  · rintro (h | h | h)
    exacts [⟨.focus, h⟩, ⟨.zoom, h⟩, ⟨.iris, h⟩]
  · rintro ⟨_ | _ | _, h⟩
    exacts [.inl h, .inr (.inl h), .inr (.inr h)]

/-- The SOURCE flag is set by a change of the source in use of an axis (R50). -/
theorem evaluate_source_iff (s : State) (t : Nat) :
    (s.evaluate t).notices.source = true ↔
      s.notices.source = true ∨ ∃ a, ((s.evaluate t).tracks.get a).source ≠ (s.tracks.get a).source := by
  simp only [evaluate_eq, Bool.or_eq_true, PerAxis.any_toList, evaluated_get, Track.changedSource_write_iff]

/-- A source is in use after an evaluation when it is chosen, with whatever judgement (R45). -/
theorem evaluate_source_eq_some_iff {s : State} {t : Nat} {a : Axis} {k : Source} :
    ((s.evaluate t).tracks.get a).source = some k ↔ ∃ r, s.choice t a = some (k, r) := by
  rw [evaluate_tracks_get, Track.write_source, Option.map_eq_some_iff]
  exact ⟨fun ⟨⟨_, r⟩, hchoice, hk⟩ => ⟨r, hk ▸ hchoice⟩, fun ⟨r, hchoice⟩ => ⟨(k, r), hchoice, rfl⟩⟩

/-- No source is in use after an evaluation when none is chosen (R45). -/
theorem evaluate_source_eq_none_iff {s : State} {t : Nat} {a : Axis} :
    ((s.evaluate t).tracks.get a).source = none ↔ s.choice t a = none := by
  rw [evaluate_tracks_get, Track.write_source, Option.map_eq_none_iff]

/-- A source is chosen when it is the first of the active order that is not LOST (R45). -/
theorem exists_choice_iff {s : State} (h : s.SettingsInv) {t : Nat} {a : Axis} {k : Source} :
    (∃ r, s.choice t a = some (k, r)) ↔
      ∃ before after, s.settings.active.order a = before ++ k :: after ∧ ¬ s.SourceLost a t k ∧
        ∀ j ∈ before, s.SourceLost a t j := by
  have hlive : ¬ s.SourceLost a t k ↔ ∃ r, s.judged a t k = some r := by
    rw [← judged_eq_none_iff h, ← ne_eq, Option.ne_none_iff_exists']
  simp only [choice_eq_some_iff, hlive, judged_eq_none_iff h]
  exact ⟨fun ⟨r, before, after, horder, hr, hbefore⟩ => ⟨before, after, horder, ⟨r, hr⟩, hbefore⟩,
    fun ⟨before, after, horder, ⟨r, hr⟩, hbefore⟩ => ⟨r, before, after, horder, hr, hbefore⟩⟩

/-- A source in use gives the axis the state and value of its judgement (R46). -/
theorem evaluate_judged {s : State} {t : Nat} {a : Axis} {k : Source}
    (h : ((s.evaluate t).tracks.get a).source = some k) :
    ∃ r, s.judged a t k = some r ∧ ((s.evaluate t).tracks.get a).state = r.1 ∧
      ((s.evaluate t).tracks.get a).held = some r.2 := by
  obtain ⟨r, hchoice⟩ := evaluate_source_eq_some_iff.mp h
  obtain ⟨-, -, -, hjudged, -⟩ := choice_eq_some_iff.mp hchoice
  rw [evaluate_tracks_get, hchoice]
  exact ⟨r, hjudged, Track.write_some _ k r⟩

/-- Settles O54: the source in use by the choice over the active order, the state and value by the judging of its samples. -/
theorem firstLiveSourceIsUsed : Obligations.FirstLiveSourceIsUsed := by
  refine ⟨fun s t => ⟨rfl, (s.evaluate t).notices.source, rfl, evaluate_source_iff s t⟩, ?_⟩
  intro s t a hs x
  refine ⟨fun k => evaluate_source_eq_some_iff.trans (exists_choice_iff hs), ?_, fun hnone => ?_, ?_, ?_, ?_⟩
  · simp only [x, evaluate_source_eq_none_iff, choice_eq_none_iff, judged_eq_none_iff hs]
  · simp only [x, evaluate_tracks_get, evaluate_source_eq_none_iff.mp hnone]
    exact Track.write_none _
  · simp only [x, evaluate_tracks_get, Track.write_prevSource]
  · simp only [x, evaluate_tracks_get, Track.write_prevState]
  intro hhistory k hk samples
  refine ⟨fun _ _ => mem_carrying, ?_⟩
  have hsorted : samples.Pairwise fun x y => x.1 < y.1 := carrying_pairwise a (historyInv_iff.mp hhistory k)
  obtain ⟨r, hjudged, hstate, hheld⟩ := evaluate_judged hk
  obtain ⟨tn, vn, hlast, hfresh, hcoasting, hholding⟩ := judgeSource_of_some hjudged
  refine ⟨tn, vn, hlast, fun ht => ?_, fun hlate ht => ?_, fun ht => ?_⟩
  · obtain rfl := hfresh ht
    exact ⟨hstate, fun ta va hhead hta => hheld.trans (congrArg some (freshValue_of_le_head hhead hta)),
      fun v hv => hheld.trans (congrArg some (freshValue_of_mem hsorted hv)),
      fun i ta va tb vb hi hj ha hb => ⟨_, hheld, freshValue_of_neighbours hsorted hi hj ha hb⟩⟩
  · obtain rfl := hcoasting hlate ht
    exact ⟨hstate, fun hone => hheld.trans (congrArg some (coastValue_of_only hone)),
      fun before t0 v0 htwo => ⟨_, hheld, coastValue_of_newest_two hsorted htwo⟩⟩
  · obtain rfl := hholding ht
    exact ⟨hstate, hheld⟩

end Sys2Proof.Machine

/-! PROOFS. The arithmetic of a band plan (R70 to R94, R146). First interpolation within bounds and what it gives the strengths,
the scale and the grid positions; then the blend of a finished profile's curve sets; then that a plan, as it is made, is within
its ranges. -/

namespace Sys2Proof.Machine

/-! ### Interpolation within two bounds -/

/-- An interpolation between two values of a range stays in the range. -/
theorem interpolate_within {lo hi a b num den : Nat} (ha : Within lo hi a) (hb : Within lo hi b) (hden : 0 < den)
    (hnum : num ≤ den) : Within lo hi (interpolate a b num den) := by
  obtain ⟨hlo, hhi⟩ := ha
  obtain ⟨hlo', hhi'⟩ := hb
  have hvalue := interpolate_cast (a := a) (b := b) hden hnum
  have below : ((lo : Int) - a) * den ≤ ((b : Int) - a) * num :=
    calc ((lo : Int) - a) * den ≤ ((lo : Int) - a) * num := mul_le_mul_of_nonpos_left (by omega) (by omega)
      _ ≤ ((b : Int) - a) * num := mul_le_mul_of_nonneg_right (by omega) (by omega)
  have above : ((b : Int) - a) * num ≤ ((hi : Int) - a) * den :=
    calc ((b : Int) - a) * num ≤ ((hi : Int) - a) * num := mul_le_mul_of_nonneg_right (by omega) (by omega)
      _ ≤ ((hi : Int) - a) * den := mul_le_mul_of_nonneg_left (by omega) (by omega)
  have hge : (lo : Int) - a ≤ (2 * (((b : Int) - a) * num) + den) / (2 * den) := by
    rw [Int.le_ediv_iff_mul_le (by omega)]
    linarith
  have hle : (2 * (((b : Int) - a) * num) + den) / (2 * den) < (hi : Int) - a + 1 := by
    rw [Int.ediv_lt_iff_lt_mul (by omega)]
    linarith
  constructor <;> omega

/-- An interpolation of no part of the way stays where it starts. -/
theorem interpolate_zero (a b : Nat) {den : Nat} (hden : 0 < den) : interpolate a b 0 den = a := by
  have hvalue := interpolate_cast (a := a) (b := b) hden (Nat.zero_le den)
  have hnone : ((2 * (((b : Int) - a) * (0 : Nat)) + den) / (2 * den)) = 0 :=
    Int.ediv_eq_zero_of_lt (by omega) (by omega)
  rw [hnone] at hvalue
  omega

/-- A value drawn toward a base lies part of the way from the base to it (R82, R92). -/
theorem drawToward_eq_interpolate (base x k : Nat) : drawToward base x k = interpolate base x k 256 := rfl

/-- An effective strength lies part of the way from 0 to the ramp's value (R146). -/
theorem effectiveStrength_eq_interpolate (value f : Nat) : effectiveStrength value f = interpolate 0 value f 256 := by
  simp [effectiveStrength, interpolate]

/-! ### The strengths (R146) -/

/-- The effective strength of a ramp and a fade factor within their ranges is at most full (R146, R147). -/
theorem effectiveStrength_le {value f : Nat} (hvalue : value ≤ 256) (hf : f ≤ 256) : effectiveStrength value f ≤ 256 := by
  rw [effectiveStrength_eq_interpolate]
  exact (interpolate_within (lo := 0) ⟨Nat.zero_le _, Nat.zero_le _⟩ ⟨Nat.zero_le _, hvalue⟩ (by decide) hf).2

/-- The effective breathing strength is at most full (R146). -/
theorem kb_le {s : State} (h : s.RampInv) : s.ramps.kb ≤ 256 := by
  obtain ⟨⟨hvalue, -⟩, -, hfade⟩ := h
  exact effectiveStrength_le hvalue hfade

/-- The effective shading strength is at most full (R146). -/
theorem kv_le {s : State} (h : s.RampInv) : s.ramps.kv ≤ 256 := by
  obtain ⟨-, ⟨hvalue, -⟩, hfade⟩ := h
  exact effectiveStrength_le hvalue hfade

/-! ### The scale (R80, R82, R83) -/

/-- The clamped scale lies between unity and the maximum scale (R80). -/
theorem clampScale_within {sMax : Nat} (h : 65536 ≤ sMax) (sRaw : Nat) : Within 65536 sMax (clampScale sMax sRaw) := by
  unfold clampScale
  split
  · exact ⟨Nat.le_refl _, h⟩
  · split
    · exact ⟨h, Nat.le_refl _⟩
    · exact ⟨Nat.le_of_not_lt ‹_›, Nat.le_of_not_lt ‹_›⟩

/-- The effective scale lies between unity and the maximum scale when the clamped scale does (R83). -/
theorem effectiveScale_within {sMax s kb : Nat} (hs : Within 65536 sMax s) (hkb : kb ≤ 256) :
    Within 65536 sMax (effectiveScale s kb) :=
  interpolate_within ⟨Nat.le_refl _, hs.1.trans hs.2⟩ hs (by decide) hkb

/-- At strength 0 the effective scale is unity (R82). -/
theorem effectiveScale_zero (s : Nat) : effectiveScale s 0 = 65536 := interpolate_zero _ _ (by decide)

/-! ### Grid positions (R70 to R72) -/

/-- The axis value is clamped to no more than the last node (R70). -/
theorem clampToNodes_le (nodes : List Nat) (v : Nat) (h : nodes.headD 0 ≤ nodes.getLastD 0) :
    clampToNodes nodes v ≤ nodes.getLastD 0 := by
  unfold clampToNodes
  split
  · exact h
  · split <;> omega

/-- The interval index names an interval of an axis of two nodes or more (R71). -/
theorem intervalIndex_lt {nodes : List Nat} (h : 2 ≤ nodes.length) (c : Nat) : intervalIndex nodes c + 1 < nodes.length := by
  unfold intervalIndex
  rcases List.eq_nil_or_concat' ((List.range (nodes.length - 1)).filter fun i => nodes.getD i 0 ≤ c) with hl | ⟨l, i, hl⟩
  · rw [hl]; exact h
  · have hmem : i ∈ (List.range (nodes.length - 1)).filter fun i => nodes.getD i 0 ≤ c := by rw [hl]; simp
    have hi : i < nodes.length - 1 := List.mem_range.mp (List.mem_filter.mp hmem).1
    rw [hl, List.getLastD_concat]
    omega

/-- No number of an increasing list is above its last. -/
theorem le_getLastD_of_mem {xs : List Nat} (h : xs.Pairwise (· < ·)) {n : Nat} (hn : n ∈ xs) : n ≤ xs.getLastD 0 := by
  obtain ⟨l, a, rfl⟩ := xs.eq_nil_or_concat'.resolve_left (List.ne_nil_of_mem hn)
  rw [List.getLastD_concat]
  rcases List.mem_append.mp hn with hn | hn
  · exact Nat.le_of_lt ((List.pairwise_append.mp h).2.2 n hn a (by simp))
  · exact Nat.le_of_eq (List.mem_singleton.mp hn)

/-- The clamped value is not above the node that ends its interval (R71). -/
theorem le_nextNode {nodes : List Nat} (h : 2 ≤ nodes.length) {c : Nat} (hc : c ≤ nodes.getLastD 0) :
    c ≤ nodes.getD (intervalIndex nodes c + 1) 0 := by
  have hlt := intervalIndex_lt h c
  by_cases hlast : intervalIndex nodes c + 1 = nodes.length - 1
  · rwa [hlast, List.getD_eq_getElem?_getD, ← List.getLast?_eq_getElem?, ← List.getLastD_eq_getLast?]
  · by_contra hnode
    have hmem : intervalIndex nodes c + 1 ∈ (List.range (nodes.length - 1)).filter fun i => nodes.getD i 0 ≤ c :=
      List.mem_filter.mpr ⟨List.mem_range.mpr (by omega), decide_eq_true (by omega)⟩
    have hmax : intervalIndex nodes c + 1 ≤ intervalIndex nodes c :=
      le_getLastD_of_mem (List.pairwise_lt_range.filter _) hmem
    omega

/-- What the blend needs of a grid position on an axis of `n` nodes: on an axis in use its interval lies on the axis, and its
fraction is at most 1 (R71, R72). -/
def GridPos.OnAxis (g : GridPos) (n : Nat) : Prop := (1 < n → g.i + 1 < n) ∧ g.u ≤ 65536

/-- A grid position among increasing nodes is on its axis (R70 to R72). -/
theorem gridPosition_onAxis {nodes : List Nat} (h : nodes.Pairwise (· < ·)) (v : Nat) :
    (gridPosition nodes v).OnAxis nodes.length := by
  unfold gridPosition
  split
  · exact ⟨fun _ => by omega, by decide⟩
  · have htwo : 2 ≤ nodes.length := by omega
    have hhead : nodes.headD 0 ≤ nodes.getLastD 0 := by
      cases nodes with
      | nil => exact Nat.le_refl _
      | cons a rest => exact le_getLastD_of_mem h List.mem_cons_self
    have hnext := le_nextNode htwo (clampToNodes_le nodes v hhead)
    refine ⟨fun _ => intervalIndex_lt htwo _, Nat.div_le_of_le_mul ?_⟩
    exact Nat.mul_le_mul_right _ (Nat.sub_le_sub_right hnext _)


/-! ### The blended knots (R89, R90, R93) -/

/-- A curve set holds 51 gain codes (R1, R10). -/
def KnotsOk (knots : List Nat) : Prop := knots.length = 51 ∧ ∀ n ∈ knots, Within 2048 65535 n

/-- One pass of the blend makes a curve set of two (R90). -/
theorem blendSets_knotsOk {u : Nat} (hu : u ≤ 65536) {a b : List Nat} (ha : KnotsOk a) (hb : KnotsOk b) :
    KnotsOk (blendSets u a b) := by
  obtain ⟨halen, ha⟩ := ha
  obtain ⟨hblen, hb⟩ := hb
  refine ⟨by simp [blendSets, halen, hblen], fun n hn => ?_⟩
  obtain ⟨i, hi, rfl⟩ := List.getElem_of_mem hn
  simp only [blendSets, List.getElem_zipWith]
  exact interpolate_within (ha _ (List.getElem_mem _)) (hb _ (List.getElem_mem _)) (by decide) hu

/-- In a finished profile every element is written (R11, R12). -/
theorem isSome_of_marksClear {b : Body} (h : b.marksClear = 0) {k : Section5} {mark : Bool} (hmark : mark ∈ b.marks k) :
    mark = true := by
  rw [Body.marksClear, List.length_eq_zero_iff, List.filter_eq_nil_iff] at h
  have hk : k ∈ sections := by cases k <;> decide
  simpa using h mark (List.mem_flatMap.mpr ⟨k, hk, hmark⟩)

/-- The place of the element of a focus, a zoom and an iris node lies within the section (R1). -/
theorem elementIndex_lt {i j k nf nz ni : Nat} (hi : i < nf) (hj : j < nz) (hk : k < ni) :
    (k * nz + j) * nf + i < nf * nz * ni :=
  calc (k * nz + j) * nf + i < (k * nz + j) * nf + nf := by omega
    _ = (k * nz + j + 1) * nf := by ring
    _ ≤ ((k + 1) * nz) * nf := Nat.mul_le_mul_right _ (by rw [Nat.succ_mul]; omega)
    _ ≤ (ni * nz) * nf := Nat.mul_le_mul_right _ (Nat.mul_le_mul_right _ hk)
    _ = nf * nz * ni := by ring

section Blend

variable {p : Profile} (hshape : ProfileOk p) (hdone : ProfileDone p)

include hshape hdone

/-- A finished profile has a curve set at every node (R1, R10, R12). -/
theorem curveSet_knotsOk {i j k : Nat} (hi : i < p.geometry.nf) (hj : j < p.geometry.nz) (hk : k < p.geometry.ni) :
    KnotsOk (p.curveSet i j k) := by
  obtain ⟨-, -, -, -, -, -, -, hlength, -, -, -, -, hcodes⟩ := hshape
  obtain ⟨hmarks, -⟩ := hdone
  have hindex := hlength ▸ elementIndex_lt hi hj hk
  have hmem := List.getElem_mem hindex
  obtain ⟨set, hset⟩ := Option.isSome_iff_exists.mp
    (isSome_of_marksClear hmarks (k := .shading) (List.mem_map_of_mem hmem))
  rw [Profile.curveSet, List.getD_eq_getElem _ _ hindex, hset]
  exact hcodes _ hmem set hset

/-- The iris pass makes a curve set (R90). -/
theorem irisPass_knotsOk {iris : GridPos} (hiris : iris.OnAxis p.geometry.ni) {i j : Nat} (hi : i < p.geometry.nf)
    (hj : j < p.geometry.nz) (hni : 1 ≤ p.geometry.ni) : KnotsOk (p.irisPass iris i j) := by
  obtain ⟨hindex, hu⟩ := hiris
  unfold Profile.irisPass
  split
  · exact curveSet_knotsOk hshape hdone hi hj hni
  · have hk := hindex (by omega)
    exact blendSets_knotsOk hu (curveSet_knotsOk hshape hdone hi hj (by omega))
      (curveSet_knotsOk hshape hdone hi hj hk)

/-- The zoom pass makes a curve set (R90). -/
theorem zoomPass_knotsOk {g : PerAxis GridPos} (hzoom : g.zoom.OnAxis p.geometry.nz) (hiris : g.iris.OnAxis p.geometry.ni)
    {i : Nat} (hi : i < p.geometry.nf) : KnotsOk (p.zoomPass g i) := by
  obtain ⟨-, -, hnz, -, hni, -⟩ := of_decide_eq_true hshape.1
  obtain ⟨hindex, hu⟩ := hzoom
  unfold Profile.zoomPass
  split
  · exact irisPass_knotsOk hshape hdone hiris hi hnz hni
  · have hj := hindex (by omega)
    exact blendSets_knotsOk hu (irisPass_knotsOk hshape hdone hiris hi (by omega) hni)
      (irisPass_knotsOk hshape hdone hiris hi hj hni)

/-- The blended knots at any axis values are a curve set (R90, R93). -/
theorem blendedKnots_knotsOk (values : PerAxis Nat) : KnotsOk (p.blendedKnots (gridPositions p values)) := by
  have ⟨hadmissible, _, _, hnf, hnz, hni, _⟩ := hshape
  have ⟨_, hfocusNodes, hzoomNodes, hirisNodes⟩ := hdone
  have onAxis {nodes : List (Option Nat)} {n : Nat} (h : (codesOf nodes).Pairwise (· < ·)) (hn : nodes.length = n)
      (v : Nat) : (gridPosition (codesOf nodes) v).OnAxis n := by
    simpa [codesOf, hn] using gridPosition_onAxis h v
  obtain ⟨hindex, hu⟩ := onAxis hfocusNodes hnf values.focus
  have hi := hindex (of_decide_eq_true hadmissible).1
  have pass {i : Nat} : i < p.geometry.nf → KnotsOk (p.zoomPass (gridPositions p values) i) :=
    zoomPass_knotsOk hshape hdone (onAxis hzoomNodes hnz values.zoom) (onAxis hirisNodes hni values.iris)
  exact blendSets_knotsOk hu (pass (Nat.lt_of_succ_lt hi)) (pass hi)

end Blend

/-! ### The effective knots (R92, R93) -/

/-- The effective knots of a curve set are a curve set (R93). -/
theorem effectiveKnots_knotsOk {kv : Nat} (hkv : kv ≤ 256) {blended : List Nat} (h : KnotsOk blended) :
    KnotsOk (effectiveKnots kv blended) := by
  obtain ⟨hlength, hcodes⟩ := h
  refine ⟨by rw [effectiveKnots, List.length_map, hlength], fun n hn => ?_⟩
  obtain ⟨g, hg, rfl⟩ := List.mem_map.mp hn
  exact interpolate_within (by decide) (hcodes g hg) (by decide) hkv

/-- At strength 0 the effective knots are at unity (R92). -/
theorem effectiveKnots_zero {blended : List Nat} (h : blended.length = 51) : effectiveKnots 0 blended = neutralKnots := by
  have hunity : effectiveKnots 0 blended = blended.map fun _ => Config.unityGain :=
    List.map_congr_left fun g _ => interpolate_zero _ g (by decide)
  rw [hunity, List.map_const', h, neutralKnots]

/-- The knots of a neutral plan are a curve set (R94). -/
theorem neutralKnots_knotsOk : KnotsOk neutralKnots := by
  refine ⟨List.length_replicate, fun n hn => ?_⟩
  rw [List.eq_of_mem_replicate hn]
  decide

/-! ### A plan that is made is within its ranges (R83, R93) -/

/-- A plan within the range of a configuration is within the range of the part (R83, R103). -/
theorem PlanOk.mono {a b : Nat} {p : Plan} (h : PlanOk a p) (hab : a ≤ b) : PlanOk b p := by
  obtain ⟨⟨hs, hs'⟩, ⟨hEff, hEff'⟩, hrest⟩ := h
  exact ⟨⟨hs, hs'.trans hab⟩, ⟨hEff, hEff'.trans hab⟩, hrest⟩

section Making

variable {s : State} (hramps : s.RampInv) {sMax : Nat} (hsMax : 65536 ≤ sMax)

include hramps hsMax

/-- A neutral plan is within its ranges: it is at unity throughout (R84, R94). -/
theorem neutralPlan_planOk (d : PlanId) (slot : Option (Fin 8)) (used : PerAxis Bool) :
    PlanOk sMax (neutralPlan d s slot used) :=
  have hunity : Within 65536 sMax 65536 := ⟨Nat.le_refl _, hsMax⟩
  ⟨hunity, hunity, kb_le hramps, kv_le hramps, neutralKnots_knotsOk.1, neutralKnots_knotsOk.2, fun _ => rfl, fun _ => rfl⟩

/-- A plan of a finished profile is within its ranges (R83, R93). -/
theorem correctedPlan_planOk (d : PlanId) (slot : Fin 8) {p : Profile} (hshape : ProfileOk p) (hdone : ProfileDone p) :
    PlanOk sMax (correctedPlan d s sMax slot p) := by
  have hblended := blendedKnots_knotsOk hshape hdone (axisValues s.tracks)
  obtain ⟨hlength, hcodes⟩ := effectiveKnots_knotsOk (kv_le hramps) hblended
  refine ⟨clampScale_within hsMax _, effectiveScale_within (clampScale_within hsMax _) (kb_le hramps), kb_le hramps,
    kv_le hramps, hlength, hcodes, fun (hkb : s.ramps.kb = 0) => ?_, fun (hkv : s.ramps.kv = 0) => ?_⟩
  · simp only [correctedPlan, hkb, effectiveScale_zero]
  · simp only [correctedPlan, hkv, effectiveKnots_zero hblended.1]

end Making

end Sys2Proof.Machine

/-! PROOFS. The range of every band plan (R83, R93) is kept. First the blocks that the invariant speaks of and the blocks that the
planning of a band reads, with what each operation of the pixel path does to them; then the planning of a band itself; then
the frame, the requests and the resets, and the statement. -/

namespace Sys2Proof.Machine

/-! ### The blocks that the invariant of the plans speaks of -/

/-- What the invariant of the plans speaks of: the configuration, the plan queue and the latest plan. -/
structure Plans where
  config : Option StreamConfig
  queue  : List Plan
  latest : Option Plan

/-- The plans of a state. -/
def State.plans (s : State) : Plans := ⟨s.pixel.config, s.planner.queue, s.planner.latest⟩

/-- The plans, and the blocks beside the tracks and the settings that the planning of a band reads (R58). -/
structure PlanSide where
  slots : Eight Slot
  ramps : RampUnit
  plans : Plans

/-- The plan side of a state. -/
def State.planSide (s : State) : PlanSide := ⟨s.slots, s.ramps, s.plans⟩

/-- States of equal plan sides have equal plans. -/
theorem plans_eq_of_planSide_eq {s t : State} (h : t.planSide = s.planSide) : t.plans = s.plans :=
  congrArg PlanSide.plans h

/-- The invariant of the plans is one of the plans alone. -/
theorem State.PlanInv.of_plans_eq {s t : State} (h : s.PlanInv) (ht : t.plans = s.plans) : t.PlanInv := by
  obtain ⟨hconfig, hqueue, hlatest⟩ := Plans.mk.inj ht
  unfold State.PlanInv
  rw [hconfig, hqueue, hlatest]
  exact h

/-- With no plan in the queue the invariant is one of the latest plan. -/
theorem State.PlanInv.of_queue_nil {s t : State} (h : s.PlanInv) (hqueue : t.planner.queue = [])
    (hlatest : t.planner.latest = s.planner.latest) : t.PlanInv := by
  refine ⟨fun c _ p hp => ?_, hlatest ▸ h.2⟩
  rw [hqueue] at hp
  cases hp

/-- A planner at its reset values holds no plan (R69). -/
theorem planInv_of_initial {t : State} (h : t.planner = Planner.initial) : t.PlanInv := by
  have hqueue : t.planner.queue = [] := by rw [h]; rfl
  have hlatest : t.planner.latest = none := by rw [h]; rfl
  simp [State.PlanInv, hqueue, hlatest]

/-! ### What leaves the plan side alone -/

section LeftAlone

variable (s : State)

@[simp] theorem setTracks_planSide (x : PerAxis Track) : (s.setTracks x).planSide = s.planSide := rfl
@[simp] theorem setSettings_planSide (x : Settings) : (s.setSettings x).planSide = s.planSide := rfl
@[simp] theorem setWatches_planSide (x : Eight Watch) : (s.setWatches x).planSide = s.planSide := rfl
@[simp] theorem setNotices_planSide (x : Notices) : (s.setNotices x).planSide = s.planSide := rfl
@[simp] theorem setFaults_planSide (x : Option FaultEntry) : (s.setFaults x).planSide = s.planSide := rfl
@[simp] theorem setOutputs_planSide (x : Outputs) : (s.setOutputs x).planSide = s.planSide := rfl

@[simp] theorem setPixel_planSide {x : PixelPath} (h : x.config = s.pixel.config) :
    (s.setPixel x).planSide = s.planSide := by
  simp [State.planSide, State.plans, h]

@[simp] theorem setPixel_mapReport_planSide (f : FrameReport → FrameReport) :
    (s.setPixel (s.pixel.mapReport f)).planSide = s.planSide := rfl

@[simp] theorem emit_planSide (p : VideoPacket) : (s.emit p).planSide = s.planSide := rfl

@[simp] theorem handOver_planSide (report : FrameReport) : (s.handOver report).planSide = s.planSide := rfl

@[simp] theorem releaseBelow_planSide (bound : Nat) : (s.releaseBelow bound).planSide = s.planSide := rfl

@[simp] theorem storeRow_planSide (c : StreamConfig) (r : Nat) (row : Row) :
    (s.storeRow c r row).planSide = s.planSide := rfl

@[simp] theorem evaluate_planSide (t : Nat) : (s.evaluate t).planSide = s.planSide := rfl

@[simp] theorem offerToWatches_planSide (p : Plan) : (s.offerToWatches p).planSide = s.planSide := rfl

@[simp] theorem reportFault_planSide (kind : FaultKind) (frame row : Option Nat) :
    (s.reportFault kind frame row).planSide = s.planSide := by
  unfold State.reportFault
  split <;> simp

@[simp] theorem emitHeader_planSide : s.emitHeader.planSide = s.planSide := by
  unfold State.emitHeader
  split
  · split <;> simp
  · rfl

@[simp] theorem emitTrailer_planSide : s.emitTrailer.planSide = s.planSide := by
  unfold State.emitTrailer
  split <;> simp

@[simp] theorem handOverReport_planSide : s.handOverReport.planSide = s.planSide := by
  unfold State.handOverReport
  split <;> simp

@[simp] theorem endFrame_planSide : s.endFrame.planSide = s.planSide := by
  unfold State.endFrame
  dsimp only
  split <;> simp

@[simp] theorem abortOutput_planSide : s.abortOutput.planSide = s.planSide := by
  simp [State.abortOutput]

@[simp] theorem extraRow_planSide (c : StreamConfig) (f : Frame) : (s.extraRow c f).planSide = s.planSide := by
  unfold State.extraRow
  split <;> simp

@[simp] theorem strayRow_planSide : s.strayRow.planSide = s.planSide := by
  unfold State.strayRow
  split <;> simp

/-- The taking of a capture leaves the queue and the latest plan alone (R67). -/
@[simp] theorem takeCapture_planSide (m : Nat) : (s.takeCapture m).planSide = s.planSide := by
  rw [takeCapture_eq]
  split <;> rfl

/-- Steps 3 to 6 of a band plan put no plan in its place yet (R58). -/
@[simp] theorem makePlan_planSide (d : PlanId) (sMax : Nat) : (s.makePlan d sMax).2.planSide = s.planSide := by
  unfold State.makePlan
  split
  · split
    · exact takeCapture_planSide s _
    · rfl
  · rfl

end LeftAlone

/-! ### The slots under an apply (R17) -/

/-- A slot's contents are good after another value is put in one of them that is good. -/
theorem slotOk_set {slots : Eight Slot} (h : ∀ j, SlotOk (slots.get j)) (i : Fin 8) {x : Slot} (hx : SlotOk x) (j : Fin 8) :
    SlotOk ((slots.set i x).get j) := by
  rw [Eight.get_set]
  split
  · exact hx
  · exact h j

theorem leaveUse_slotOk {x : Slot} (h : SlotOk x) : SlotOk x.leaveUse := by
  unfold Slot.leaveUse
  split <;> exact h

theorem enterUse_slotOk {x : Slot} (h : SlotOk x) : SlotOk x.enterUse := by
  unfold Slot.enterUse
  split <;> exact h

/-- A change of the slot in use moves slots between READY and IN_USE, both of finished profiles (R14, R17). -/
theorem changeUse_slotOk {slots : Eight Slot} (h : ∀ j, SlotOk (slots.get j)) (old new : Option (Fin 8)) :
    ∀ j, SlotOk ((changeUse slots old new).get j) := by
  unfold changeUse
  split
  · exact h
  · cases old with
    | none =>
      cases new with
      | none => exact h
      | some j => exact slotOk_set h j (enterUse_slotOk (h j))
    | some i =>
      have left := slotOk_set h i (leaveUse_slotOk (h i))
      cases new with
      | none => exact left
      | some j => exact slotOk_set left j (enterUse_slotOk (left j))

/-- An apply that takes effect keeps the contents of the slots good (R17, R131). -/
theorem applyNow_contentInv {s : State} (h : s.ContentInv) : s.applyNow.ContentInv := by
  rw [applyNow_eq]
  dsimp only [State.ContentInv]
  split
  · exact changeUse_slotOk h _ _
  · exact h

/-- The slot in use holds a finished profile (R14, R18). -/
theorem inUse_profile {slots : Eight Slot} (h : ∀ j, SlotOk (slots.get j)) {i : Fin 8} {p : Profile}
    (hi : inUse slots = some (i, p)) : ProfileOk p ∧ ProfileDone p := by
  obtain ⟨j, -, hj⟩ := List.exists_of_findSome?_eq_some hi
  split at hj
  · rename_i hslot
    cases hj
    have hok := h i
    rw [hslot] at hok
    exact hok
  · cases hj

/-! ### The planning of a band -/

/-- What a band can be planned from, in a stream of configuration `c`: a maximum scale within its range (R103), good contents
of the slots, strengths within their ranges, and plans that are so already. -/
structure State.CanPlan (s : State) (c : StreamConfig) : Prop where
  config  : s.pixel.config = some c
  scale   : Within 65536 81920 c.sMax
  content : s.ContentInv
  ramps   : s.RampInv
  plans   : s.PlanInv

section Planning

variable {s : State} {c : StreamConfig} (h : s.CanPlan c)

include h

theorem State.CanPlan.of_planSide_eq {t : State} (ht : t.planSide = s.planSide) : t.CanPlan c := by
  obtain ⟨hslots, hramps, hplans⟩ := PlanSide.mk.inj ht
  exact
    { config := (congrArg Plans.config hplans).trans h.config
      scale := h.scale
      content := by unfold State.ContentInv; rw [hslots]; exact h.content
      ramps := by unfold State.RampInv; rw [hramps]; exact h.ramps
      plans := h.plans.of_plans_eq hplans }

/-- The plan that is made is within the range of the configuration (R83, R93). -/
theorem State.CanPlan.planOk (d : PlanId) : PlanOk c.sMax (s.makePlan d c.sMax).1 := by
  unfold State.makePlan
  split
  · rename_i slot p hslot
    obtain ⟨hshape, hdone⟩ := inUse_profile h.content hslot
    split
    · have ht := h.of_planSide_eq
        (takeCapture_planSide s (p.magnification (gridPositions p (axisValues s.tracks))))
      exact correctedPlan_planOk ht.ramps h.scale.1 d slot hshape hdone
    · exact neutralPlan_planOk h.ramps h.scale.1 d _ _
  · exact neutralPlan_planOk h.ramps h.scale.1 d _ _

/-- A plan within its range may enter the queue and become the latest (R63, R65). -/
theorem State.CanPlan.enqueue {p : Plan} (hp : PlanOk c.sMax p) : (s.enqueue p).CanPlan c :=
  { h with
    plans := by
      refine ⟨fun c' hc' x hx => ?_, fun x hx => ?_⟩
      · obtain rfl : c = c' := Option.some.inj (h.config.symm.trans hc')
        rcases List.mem_append.mp hx with hx | hx
        · exact h.plans.1 c h.config x hx
        · exact List.mem_singleton.mp hx ▸ hp
      · obtain rfl : p = x := Option.some.inj hx
        exact hp.mono h.scale.2 }

/-- An apply at the start of a band leaves what a band can be planned from (R58 step 1). -/
theorem State.CanPlan.bandApply : s.bandApply.CanPlan c := by
  unfold State.bandApply
  split
  · exact { h with content := applyNow_contentInv h.content }
  · exact h

/-- The planning of a band leaves what the next can be planned from (R58). -/
theorem State.CanPlan.planBand (header : FrameHeader) (b : Nat) : (s.planBand c header b).CanPlan c := by
  unfold State.planBand
  dsimp only
  have hu := h.bandApply.of_planSide_eq (evaluate_planSide s.bandApply (bandTime c header b))
  have hmade := hu.of_planSide_eq (makePlan_planSide _ ⟨header.frameNumber.toNat, b, bandTime c header b⟩ c.sMax)
  exact (hmade.enqueue (hu.planOk _)).of_planSide_eq (offerToWatches_planSide _ _)

/-- The leaving of plans from the queue leaves the rest within their ranges (R64). -/
theorem State.CanPlan.setPlanner {x : Planner} (hqueue : ∀ p ∈ x.queue, p ∈ s.planner.queue)
    (hlatest : x.latest = s.planner.latest) : (s.setPlanner x).CanPlan c :=
  { h with plans := ⟨fun c' hc' p hp => h.plans.1 c' hc' p (hqueue p hp), hlatest ▸ h.plans.2⟩ }

/-! ### Rows and the close of a frame -/

/-- The emission of a row takes at most a plan from the queue (R64, R109). -/
theorem State.CanPlan.emitRow (y : Nat) : (s.emitRow c y).CanPlan c := by
  unfold State.emitRow
  dsimp only
  refine State.CanPlan.setPlanner (h.of_planSide_eq (by simp)) (fun p hp => ?_) rfl
  exact (List.mem_filter.mp hp).1

theorem State.CanPlan.afterStore (r : Nat) : (s.afterStore c r).CanPlan c := by
  unfold State.afterStore
  dsimp only
  split
  · exact (h.emitRow _).of_planSide_eq (releaseBelow_planSide _ _)
  · exact h.of_planSide_eq (releaseBelow_planSide _ _)

/-- The arrival of an accepted row (R109). -/
theorem State.CanPlan.acceptRow (f : Frame) (row : Row) : (s.acceptRow c f row).CanPlan c := by
  have hstored : ((s.setPixel (s.pixel.mapReport fun x => { x with rowsReceived := f.report.rowsReceived + 1 })).storeRow c
      f.report.rowsReceived (fitRow c.width row)).CanPlan c := h.of_planSide_eq (by simp)
  unfold State.acceptRow
  dsimp only
  split
  · exact (hstored.planBand _ _).afterStore _
  · exact hstored.afterStore _

/-- Operations that each leave what a band can be planned from, one after another. -/
theorem State.CanPlan.foldl {α : Type} {op : State → α → State} (hop : ∀ t x, t.CanPlan c → (op t x).CanPlan c)
    (xs : List α) : (xs.foldl op s).CanPlan c :=
  List.foldlRecOn (motive := fun t : State => t.CanPlan c) xs op h fun t ht x _ => hop t x ht

/-- What a short close does before the frame closes (R114). -/
theorem State.CanPlan.shortClose (f : Frame) : (s.shortClose c f).CanPlan c := by
  unfold State.shortClose
  dsimp only
  refine State.CanPlan.foldl (State.CanPlan.foldl (h.of_planSide_eq (by simp)) (fun t b ht => ht.planBand _ b) _)
    (fun t r ht => ?_) _
  exact (ht.of_planSide_eq (storeRow_planSide t c r _)).afterStore r

theorem State.CanPlan.emitRemaining : (s.emitRemaining c).CanPlan c :=
  h.foldl (fun _ y ht => (ht.emitRow y).of_planSide_eq (releaseBelow_planSide _ _)) _

/-- The close of a frame (R113, R114). -/
theorem State.CanPlan.closeFrame : s.closeFrame.CanPlan c := by
  unfold State.closeFrame
  split
  · rename_i c' f hc' hf
    obtain rfl : c = c' := Option.some.inj (h.config.symm.trans hc')
    dsimp only
    split
    · exact (h.shortClose f).emitRemaining.of_planSide_eq (by simp)
    · exact h.emitRemaining.of_planSide_eq (by simp)
  · exact h

end Planning

/-! ### The packets of the pixel input port -/

section Packets

/-- The announcement of a header changes slots and ramps, and no plan (R108). -/
theorem announce_plans (s : State) : s.announce.plans = s.plans := by
  unfold State.announce
  split <;> rfl

/-- A header in WAITING starts a frame or is a fault, and no plan is made (R108). -/
theorem judgeHeader_plans (s : State) (h : FrameHeader) : (s.judgeHeader h).plans = s.plans := by
  unfold State.judgeHeader
  dsimp only
  split
  · exact announce_plans _
  · exact plans_eq_of_planSide_eq (reportFault_planSide _ _ _ _)

variable {s : State} (hcontent : s.ContentInv) (hramps : s.RampInv) (hpixel : s.PixelInv) (hplan : s.PlanInv)

include hcontent hramps hpixel hplan

/-- The invariants give what a band can be planned from (R103, R147). -/
theorem canPlan_of_inv {c : StreamConfig} (hc : s.pixel.config = some c) : s.CanPlan c := by
  obtain ⟨-, -, -, -, -, -, hmin, hmax, -⟩ := hpixel.1 c hc
  exact ⟨hc, ⟨hmin, hmax⟩, hcontent, hramps, hplan⟩

theorem closeFrame_planInv : s.closeFrame.PlanInv := by
  cases hc : s.pixel.config with
  | some c => exact (canPlan_of_inv hcontent hramps hpixel hplan hc).closeFrame.plans
  | none =>
    rw [State.closeFrame, hc]
    exact hplan

/-- The arrival of a header keeps the plans within their ranges (R108, R113). -/
theorem headerArrives_planInv (h : FrameHeader) : (s.headerArrives h).PlanInv := by
  have hclosed : s.closeIfOpen.PlanInv := by
    unfold State.closeIfOpen
    split
    · exact closeFrame_planInv hcontent hramps hpixel hplan
    · exact closeFrame_planInv hcontent hramps hpixel hplan
    · exact hplan
  unfold State.headerArrives
  dsimp only
  split
  · exact hclosed.of_plans_eq (judgeHeader_plans _ h)
  · exact hclosed

/-- The arrival of a row keeps the plans within their ranges (R109). -/
theorem rowArrives_planInv (row : Row) : (s.rowArrives row).PlanInv := by
  unfold State.rowArrives
  split
  · exact hplan
  · exact hplan.of_plans_eq (plans_eq_of_planSide_eq (strayRow_planSide s))
  · split
    · rename_i c f hc hf
      split
      · exact ((canPlan_of_inv hcontent hramps hpixel hplan hc).acceptRow f row).plans
      · exact hplan.of_plans_eq (plans_eq_of_planSide_eq (extraRow_planSide s c f))
    · exact hplan

/-- The arrival of an end keeps the plans within their ranges (R113). -/
theorem endArrives_planInv : s.endArrives.PlanInv := by
  unfold State.endArrives
  split
  · exact hplan
  · exact hplan.of_plans_eq rfl
  · exact closeFrame_planInv hcontent hramps hpixel hplan

end Packets

/-! ### The taking of a request -/

section Requests

variable {kind : Byte} {q : Request} {owner : State → Answer} {s : State}

/-- What the control link's own part of a taking keeps and the owner keeps, the taking of the request keeps. -/
theorem takeRequest_keeps {P : State → Prop} (hcontrol : ∀ t x, P t → P (t.setControl x))
    (howner : ∀ t, P t → P (owner t).state) (h : P s) : P (takeRequest kind q owner s) := by
  have hremoved : P s.removeOldest := hcontrol _ _ h
  unfold takeRequest
  split
  · refine hcontrol _ _ ?_
    split
    · exact howner _ hremoved
    · exact hremoved
  · exact h

/-- A request whose owner leaves the plans alone leaves them alone. -/
theorem takeRequest_plans (h : ∀ t, (owner t).state.plans = t.plans) : (takeRequest kind q owner s).plans = s.plans :=
  takeRequest_keeps (P := fun t => t.plans = s.plans) (fun _ _ ht => ht) (fun t ht => (h t).trans ht) rfl

/-- A request whose owner writes one block, and that none of the plans', leaves the plans alone. -/
theorem takeRequest_plans_of_block {α : Type} {set : State → α → State} (hset : ∀ t x, (set t x).plans = t.plans)
    (h : ∀ t, ∃ x, (owner t).state = set t x) : (takeRequest kind q owner s).plans = s.plans :=
  takeRequest_plans fun t => let ⟨x, hx⟩ := h t; hx ▸ hset t x

theorem takeUnknown_plans : (takeUnknown kind q s).plans = s.plans := by
  unfold takeUnknown
  split <;> rfl

theorem takeRamp_plans (form : Nat) : (takeRamp form q s).plans = s.plans := by
  unfold takeRamp
  split
  · exact takeRequest_plans_of_block (set := State.setRamps) (fun _ _ => rfl) (rampOwner_state q)
  · rfl

/-- SAMPLE writes the intake (R25). -/
theorem sampleOwner_plans (q : Request) (s : State) : (sampleOwner q s).state.plans = s.plans := by
  unfold sampleOwner
  dsimp only
  split
  · rfl
  · split
    · rfl
    · split
      · rfl
      · split <;> rfl

/-- STREAM_START leaves the configuration alone (R105). -/
theorem streamStartOwner_plans (s : State) : (streamStartOwner s).state.plans = s.plans := by
  unfold streamStartOwner
  split
  · split <;> rfl
  · rfl

/-- STREAM_STOP leaves the configuration alone (R106). -/
theorem streamStopOwner_plans (s : State) : (streamStopOwner s).state.plans = s.plans := by
  refine plans_eq_of_planSide_eq (setPixel_planSide s ?_)
  unfold PixelPath.stop
  split <;> rfl

/-- STREAM_CONFIGURE is carried out only in STOPPED, where the queue is empty (R69, R103). -/
theorem streamConfigure_planInv (hplan : s.PlanInv) (hstopped : s.pixel.stream = .stopped → s.planner.queue = []) :
    (takeRequest 0x0A q (streamConfigureOwner q) s).PlanInv := by
  refine (takeRequest_keeps (P := fun t => t.PlanInv ∧ (t.pixel.stream = .stopped → t.planner.queue = []))
    (fun _ _ ht => ht) (fun t ht => ?_) ⟨hplan, hstopped⟩).1
  obtain ⟨hinv, hempty⟩ := ht
  unfold streamConfigureOwner
  dsimp only
  split
  · exact ⟨hinv, hempty⟩
  · rename_i hstream
    split
    · exact ⟨hinv, hempty⟩
    · split
      · exact ⟨hinv, hempty⟩
      · exact ⟨hinv.of_queue_nil (hempty (not_not.mp hstream)) rfl, hempty⟩

/-- A STREAM restart empties the queue and leaves the latest plan (R69, R175). -/
theorem streamRestart_planInv (h : s.PlanInv) : s.streamRestart.PlanInv := by
  have haborted : s.abortOutput.handOverReport.PlanInv := h.of_plans_eq (plans_eq_of_planSide_eq (by simp))
  exact haborted.of_queue_nil rfl rfl

theorem takeRequest_restart_planInv (h : s.PlanInv) : (takeRequest 0x04 q (restartOwner q) s).PlanInv := by
  refine takeRequest_keeps (fun _ _ ht => ht) (fun t ht => ?_) h
  unfold restartOwner
  split
  · exact streamRestart_planInv ht
  · exact ht

end Requests

/-! ### Resets and sendings -/

section Resets

variable {s : State}

/-- The begin of a device-level reset empties the queue and leaves the latest plan (R69, R176). -/
theorem beginReset_planInv (h : s.PlanInv) (run : ResetRun) : (s.beginReset run).PlanInv := by
  rw [beginReset_eq]
  exact h.of_queue_nil rfl rfl

theorem takeRestart_planInv {q : Request} (h : s.PlanInv) (level : Nat) (cause : ResetCause) :
    (takeRestart level cause q s).PlanInv := by
  unfold takeRestart takeDeviceRestart
  split
  · exact h
  · split
    · split
      · exact beginReset_planInv (s := s.removeOldest) (h.of_plans_eq rfl) _
      · exact h
    · exact takeRequest_restart_planInv h

/-- The end of a device-level reset returns the planner to its reset values, at either level (R69). -/
theorem finishReset_planInv (s : State) (run : ResetRun) : (s.finishReset run).PlanInv := by
  refine planInv_of_initial ?_
  unfold State.finishReset
  dsimp only
  split <;> rfl

theorem sendReply_plans (s : State) : s.sendReply.plans = s.plans := by
  unfold State.sendReply
  split <;> rfl

theorem sendNotice_plans (s : State) : s.sendNotice.plans = s.plans := by
  have hclear (o : Offer) : (s.clearOffer o).plans = s.plans := by cases o <;> rfl
  unfold State.sendNotice
  split
  · exact hclear _
  · rfl

theorem sendEnd_plans (s : State) : s.sendEnd.plans = s.plans := by
  unfold State.sendEnd
  split <;> rfl

theorem controlBytes_plans (s : State) (bytes : List Byte) : (s.controlBytes bytes).plans = s.plans := by
  unfold State.controlBytes
  split <;> rfl

theorem lensBytes_plans (s : State) (bytes : List Byte) : (s.lensBytes bytes).plans = s.plans := by
  have hevent (t : State) (e : Option Record) : (t.lensEvent e).plans = t.plans := by
    unfold State.lensEvent
    split <;> rfl
  unfold State.lensBytes
  split
  · exact List.foldlRecOn (motive := fun t : State => t.plans = s.plans) _ _ rfl fun t ht e _ => (hevent t e).trans ht
  · rfl

end Resets

/-! ### Every step -/

/-- In STOPPED no frame is in progress, so the plan queue is empty (R63, R102). -/
theorem queue_nil_of_stopped {s : State} (hpixel : s.PixelInv) (hqueue : s.QueueInv) (h : s.pixel.stream = .stopped) :
    s.planner.queue = [] := by
  obtain ⟨-, hframe, -⟩ := hpixel
  obtain ⟨hempty, -⟩ := hqueue
  refine hempty (Option.isNone_iff_eq_none.mp ?_)
  simpa [h] using hframe

/-- Every command keeps the plans within their ranges (R83, R93). -/
theorem exec_planInv {i : Instr} {s t : State} (hcontent : s.ContentInv) (hramps : s.RampInv) (hpixel : s.PixelInv)
    (hqueue : s.QueueInv) (hplan : s.PlanInv) (h : exec i s = .next t) : t.PlanInv := by
  cases i with
  | identify q | status q | streamRead q | stageCancel q | stageRead q | framingCapture q | watchClear q | watchRead q =>
    cases h; exact hplan.of_plans_eq (takeRequest_plans fun _ => rfl)
  | subscribe q =>
    cases h
    exact hplan.of_plans_eq (takeRequest_plans fun t => let ⟨_, _, h⟩ := subscribeOwner_state q t; (congrArg State.plans h :))
  | restartStream q =>
    cases h
    split
    · exact takeRequest_restart_planInv hplan
    · exact hplan
  | restartWarm q | restartCold q => cases h; exact takeRestart_planInv hplan _ _
  | profileOpen q =>
    cases h
    exact hplan.of_plans_eq (takeRequest_plans_of_block (set := State.setSlots) (fun _ _ => rfl) (profileOpenOwner_state q))
  | profileWrite q =>
    cases h
    exact hplan.of_plans_eq (takeRequest_plans_of_block (set := State.setSlots) (fun _ _ => rfl) (profileWriteOwner_state q))
  | profileClose q =>
    cases h
    exact hplan.of_plans_eq (takeRequest_plans_of_block (set := State.setSlots) (fun _ _ => rfl) (profileCloseOwner_state q))
  | profileDiscard q =>
    cases h
    exact hplan.of_plans_eq
      (takeRequest_plans_of_block (set := State.setSlots) (fun _ _ => rfl) (profileDiscardOwner_state q))
  | profileQuery q =>
    cases h; exact hplan.of_plans_eq (takeRequest_plans fun t => congrArg State.plans (profileQueryOwner_state q t))
  | streamConfigure q => cases h; exact streamConfigure_planInv hplan (queue_nil_of_stopped hpixel hqueue)
  | streamStart q => cases h; exact hplan.of_plans_eq (takeRequest_plans streamStartOwner_plans)
  | streamStop q => cases h; exact hplan.of_plans_eq (takeRequest_plans streamStopOwner_plans)
  | stageWrite q =>
    cases h
    exact hplan.of_plans_eq (takeRequest_plans_of_block (set := State.setSettings) (fun _ _ => rfl) (stageWriteOwner_state q))
  | stageApply q =>
    cases h
    exact hplan.of_plans_eq (takeRequest_plans fun t => let ⟨_, _, h⟩ := stageApplyOwner_state q t; (congrArg State.plans h :))
  | rampContinue q | rampRestart q | rampNow q | rampHalt q => cases h; exact hplan.of_plans_eq (takeRamp_plans _)
  | watchSet q =>
    cases h
    exact hplan.of_plans_eq (takeRequest_plans_of_block (set := State.setWatches) (fun _ _ => rfl) (watchSetOwner_state q))
  | faultRead q =>
    cases h
    exact hplan.of_plans_eq (takeRequest_plans_of_block (set := State.setFaults) (fun _ _ => rfl) (faultReadOwner_state q))
  | sample q => cases h; exact hplan.of_plans_eq (takeRequest_plans (sampleOwner_plans q))
  | unknownKind kind q => cases h; exact hplan.of_plans_eq takeUnknown_plans
  | controlRecordArrival bytes | notReadyRecord bytes => cases h; exact hplan.of_plans_eq (controlBytes_plans s bytes)
  | lensRecordArrival bytes => cases h; exact hplan.of_plans_eq (lensBytes_plans s bytes)
  | frameHeader x | rampComplete x =>
    cases h
    split
    · exact headerArrives_planInv hcontent hramps hpixel hplan x
    · exact hplan
  | inputRow row =>
    cases h
    split
    · exact rowArrives_planInv hcontent hramps hpixel hplan row
    · exact hplan
  | frameEnd =>
    cases h
    split
    · exact endArrives_planInv hcontent hramps hpixel hplan
    · exact hplan
  | sendReply => cases h; exact hplan.of_plans_eq (sendReply_plans s)
  | sendNotice => cases h; exact hplan.of_plans_eq (sendNotice_plans s)
  | sendEnd => cases h; exact hplan.of_plans_eq (sendEnd_plans s)
  | powerOn =>
    cases h
    split
    · exact hplan
    · exact planInv_of_initial rfl
  | powerLoss =>
    cases h
    split
    · exact planInv_of_initial rfl
    · exact hplan
  | resetLineAssert =>
    cases h
    split
    · exact hplan
    · split
      · exact (beginReset_planInv hplan ⟨.resetLine, 0⟩).of_plans_eq rfl
      · exact hplan.of_plans_eq rfl
  | resetLineRelease =>
    cases h
    dsimp only
    split
    · split
      · exact finishReset_planInv _ _
      · exact hplan.of_plans_eq rfl
    · exact hplan
  | resetEnd =>
    cases h
    split
    · exact finishReset_planInv s _
    · exact hplan

/-- Settles O50: every command keeps the plans within their ranges, and an idle step changes nothing. -/
theorem planInvariantKept : Obligations.PlanInvariantKept := by
  intro s t hcontent hramps hpixel hqueue hplan h
  unfold step at h
  split at h
  · cases h; exact hplan
  · rename_i rest _
    exact exec_planInv (s := s.setPending rest) hcontent hramps hpixel hqueue hplan h

end Sys2Proof.Machine

/-! PROOFS. All that a command can do to the pixel path, the plan queue and the pixel output port, said once: it leaves them
alone, it is a request of the stream, it aborts the frame or returns the path to reset values, or a packet arrives. -/

namespace Sys2Proof.Machine

/-! ### The frame path -/

/-- What a frame passes through: whether the part runs, the pixel path, the plan queue and the packets of the output port. -/
structure FramePath where
  running : Bool
  pixel   : PixelPath
  queue   : List Plan
  video   : List VideoPacket

/-- The frame path of a state. -/
def State.framePath (s : State) : FramePath := ⟨s.running, s.pixel, s.planner.queue, s.outputs.video⟩

/-- What a command other than a packet can do to the frame path: nothing; the configuring, starting or stopping of the stream
(R103, R105, R106); the abort of a frame as the stream stops (R124, R175, R176); or the return to reset values (R124). -/
inductive FramePath.Commanded (x : FramePath) : FramePath → Prop where
  | unchanged : Commanded x x
  | configured {c : StreamConfig} : x.pixel.stream = .stopped → ConfigOk c →
      Commanded x { x with pixel := { x.pixel with config := some c, lineStore := [] } }
  | started : x.running = true → x.pixel.stream = .stopped → x.pixel.config.isSome = true →
      Commanded x { x with pixel := { x.pixel with stream := .waiting, skip := false, orphan := false } }
  | stopped : Commanded x { x with pixel := x.pixel.stop }
  | aborted (running : Bool) :
      Commanded x
        ⟨running, { x.pixel with stream := .stopped, lineStore := [], frame := none, skip := false, orphan := false }, [],
          x.video ++ abortPackets x.pixel.frame⟩
  | returned (running : Bool) {config : Option StreamConfig} (lastFrame : Option Nat) :
      (∀ c ∈ config, c ∈ x.pixel.config) →
      Commanded x ⟨running, { PixelPath.initial with config, lastFrame }, [], x.video⟩

theorem FramePath.Commanded.of_eq {x y : FramePath} (h : y = x) : x.Commanded y := h ▸ .unchanged

/-- What the arrival of a packet in a running part can do: that of a header, a row or an end (R108, R109, R113). -/
inductive State.Packet (s : State) : State → Prop where
  | header (h : FrameHeader) : Packet s (s.headerArrives h)
  | row (row : Row) : Packet s (s.rowArrives row)
  | frameEnd : Packet s s.endArrives

/-! ### The requests of the stream -/

/-- The range checks of STREAM_CONFIGURE (R103). -/
theorem ConfigureFields.good_iff {f : ConfigureFields} :
    f.good = true ↔
      Within 64 4096 f.width ∧ f.width % 2 = 0 ∧ Within 64 3072 f.height ∧ Within 4 (f.height / 8) f.bands ∧
      Within 65536 81920 f.sMax ∧ f.form ≤ 1 ∧ f.cx2 ≤ 2 * (f.width - 1) ∧ f.cy2 ≤ 2 * (f.height - 1) ∧
      Within 1 8192 f.ax ∧ Within 1 8192 f.ay := by
  simp only [ConfigureFields.good, Bool.and_eq_true, decide_eq_true_eq, Within, and_assoc]

/-- Fields in range whose depth the line store can hold make an accepted configuration (R54, R103, R104). -/
theorem ConfigureFields.configuration_ok {f : ConfigureFields} (hgood : f.good = true)
    (hdepth : f.configuration.depth ≤ f.configuration.capacity) : ConfigOk f.configuration := by
  obtain ⟨⟨hw, hw'⟩, -, ⟨hh, hh'⟩, ⟨hb, hb'⟩, ⟨hs, hs'⟩, -, hcx, hcy, ⟨hax, -⟩, ⟨hay, -⟩⟩ := good_iff.mp hgood
  exact ⟨hw, hw', hh, hh', hb, hb', hs, hs', hcx, hcy, hax, hay, rfl, rfl, rfl, rfl, rfl, rfl, hdepth⟩

theorem streamConfigureOwner_commanded (q : Request) (s : State) :
    s.framePath.Commanded (streamConfigureOwner q s).state.framePath := by
  unfold streamConfigureOwner
  dsimp only
  split
  · exact .unchanged
  · rename_i hstream
    split
    · exact .unchanged
    · rename_i hgood
      split
      · exact .unchanged
      · rename_i hdepth
        exact .configured (not_not.mp hstream)
          (ConfigureFields.configuration_ok (by simpa using hgood) (Nat.le_of_not_lt hdepth))

theorem streamStartOwner_commanded {s : State} (hrun : s.running = true) :
    s.framePath.Commanded (streamStartOwner s).state.framePath := by
  unfold streamStartOwner
  split
  · rename_i hstream
    split
    · rename_i hconfig
      exact .started hrun hstream hconfig
    · exact .unchanged
  · exact .unchanged

theorem restartOwner_commanded (q : Request) (s : State) :
    s.framePath.Commanded (restartOwner q s).state.framePath := by
  have hrestart : s.streamRestart.framePath =
      ⟨s.running, { s.pixel with stream := .stopped, lineStore := [], frame := none, skip := false, orphan := false }, [],
        s.outputs.video ++ abortPackets s.pixel.frame⟩ := by
    unfold State.streamRestart State.handOverReport
    rw [abortOutput_eq]
    cases s.pixel.frame <;> rfl
  unfold restartOwner
  split
  · have haborted := FramePath.Commanded.aborted (x := s.framePath) s.running
    exact (hrestart ▸ haborted :)
  · exact .unchanged

/-! ### The taking of a request and the frame path -/

section Taking

variable {kind : Byte} {q : Request} {owner : State → Answer} {s : State}

/-- What the owner of a request does to the frame path is what the taking of the request does to it; the part then runs. -/
theorem takeRequest_commanded (h : ∀ t : State, t.running = true → t.framePath.Commanded (owner t).state.framePath) :
    s.framePath.Commanded (takeRequest kind q owner s).framePath := by
  cases ht : s.takes ⟨kind, q.tag, q.body⟩ with
  | false => rw [takeRequest_of_not_takes ht]; exact .unchanged
  | true =>
    have hrun : s.removeOldest.running = true := (takes_iff.mp ht).1
    cases hl : lengthAgrees kind q.body.length with
    | false => rw [takeRequest_of_wrong_length ht hl]; exact .unchanged
    | true => rw [takeRequest_of_takes ht hl]; exact h _ hrun

/-- A request whose owner leaves the frame path alone leaves it alone. -/
theorem takeRequest_framePath (h : ∀ t, (owner t).state.framePath = t.framePath) :
    (takeRequest kind q owner s).framePath = s.framePath :=
  takeRequest_keeps (P := fun t => t.framePath = s.framePath) (fun _ _ ht => ht) (fun t ht => (h t).trans ht) rfl

/-- A request whose owner writes one block, and that none of the frame path's, leaves the frame path alone. -/
theorem takeRequest_framePath_of_block {α : Type} {set : State → α → State}
    (hset : ∀ t x, (set t x).framePath = t.framePath) (h : ∀ t, ∃ x, (owner t).state = set t x) :
    (takeRequest kind q owner s).framePath = s.framePath :=
  takeRequest_framePath fun t => let ⟨x, hx⟩ := h t; hx ▸ hset t x

theorem takeUnknown_framePath : (takeUnknown kind q s).framePath = s.framePath := by
  unfold takeUnknown
  split <;> rfl

theorem takeRamp_framePath (form : Nat) : (takeRamp form q s).framePath = s.framePath := by
  unfold takeRamp
  split
  · exact takeRequest_framePath_of_block (set := State.setRamps) (fun _ _ => rfl) (rampOwner_state q)
  · rfl

theorem sampleOwner_framePath (q : Request) (s : State) : (sampleOwner q s).state.framePath = s.framePath := by
  unfold sampleOwner
  dsimp only
  split
  · rfl
  · split
    · rfl
    · split
      · rfl
      · split <;> rfl

/-- The begin of a device-level reset aborts the frame and stops the stream (R124, R176). -/
theorem beginReset_commanded (s : State) (run : ResetRun) : s.framePath.Commanded (s.beginReset run).framePath := by
  rw [beginReset_eq]
  exact .aborted _

theorem takeRestart_commanded (level : Nat) (cause : ResetCause) :
    s.framePath.Commanded (takeRestart level cause q s).framePath := by
  unfold takeRestart takeDeviceRestart
  split
  · exact .unchanged
  · split
    · split
      · exact beginReset_commanded s.removeOldest _
      · exact .unchanged
    · exact takeRequest_commanded fun t _ => restartOwner_commanded q t

end Taking

/-! ### Sendings, links and resets -/

section Events

variable (s : State)

theorem sendReply_framePath : s.sendReply.framePath = s.framePath := by
  unfold State.sendReply
  split <;> rfl

theorem sendNotice_framePath : s.sendNotice.framePath = s.framePath := by
  have hclear (o : Offer) : (s.clearOffer o).framePath = s.framePath := by cases o <;> rfl
  unfold State.sendNotice
  split
  · exact hclear _
  · rfl

theorem sendEnd_framePath : s.sendEnd.framePath = s.framePath := by
  unfold State.sendEnd
  split <;> rfl

theorem controlBytes_framePath (bytes : List Byte) : (s.controlBytes bytes).framePath = s.framePath := by
  unfold State.controlBytes
  split <;> rfl

theorem lensBytes_framePath (bytes : List Byte) : (s.lensBytes bytes).framePath = s.framePath := by
  have hevent (t : State) (e : Option Record) : (t.lensEvent e).framePath = t.framePath := by
    unfold State.lensEvent
    split <;> rfl
  unfold State.lensBytes
  split
  · exact List.foldlRecOn (motive := fun t : State => t.framePath = s.framePath) _ _ rfl
      fun t ht e _ => (hevent t e).trans ht
  · rfl

/-- The end of a device-level reset returns the frame path to reset values, WARM keeping the configuration (R124). -/
theorem finishReset_commanded (run : ResetRun) : s.framePath.Commanded (s.finishReset run).framePath := by
  unfold State.finishReset
  dsimp only
  split
  · exact .returned _ _ fun _ => id
  · exact .returned _ none nofun

/-- A frame path at its COLD values has been returned to them (R124, R177). -/
theorem commanded_of_initial (t : State) (h : t.pixel = PixelPath.initial) (hqueue : t.planner.queue = [])
    (hvideo : t.outputs.video = s.outputs.video) : s.framePath.Commanded t.framePath := by
  have ht : t.framePath = ⟨t.running, { PixelPath.initial with config := none, lastFrame := none }, [], s.outputs.video⟩ := by
    rw [State.framePath, h, hqueue, hvideo]
    rfl
  exact ht ▸ .returned _ none nofun

end Events

/-! ### Every command -/

/-- All that a command can do to the frame path. -/
theorem exec_framePath {i : Instr} {s t : State} (h : exec i s = .next t) :
    s.framePath.Commanded t.framePath ∨ (s.running = true ∧ s.Packet t) := by
  have packet {b : Bool} {u : State} (hb : b = true → s.running = true) (hu : s.Packet u) :
      s.framePath.Commanded (if b then u else s).framePath ∨ (s.running = true ∧ s.Packet (if b then u else s)) := by
    cases b with
    | false => exact .inl .unchanged
    | true => exact .inr ⟨hb rfl, hu⟩
  cases i with
  | frameHeader x => cases h; exact packet id (.header x)
  | inputRow row => cases h; exact packet id (.row row)
  | frameEnd => cases h; exact packet id .frameEnd
  | rampComplete x => cases h; exact packet (fun hb => by simp only [Bool.and_eq_true] at hb; exact hb.1.1) (.header x)
  | identify q | status q | streamRead q | stageCancel q | stageRead q | framingCapture q | watchClear q | watchRead q =>
    cases h; exact .inl (.of_eq (takeRequest_framePath fun _ => rfl))
  | subscribe q =>
    cases h
    exact .inl (.of_eq (takeRequest_framePath fun t =>
      let ⟨_, _, h⟩ := subscribeOwner_state q t; (congrArg State.framePath h :)))
  | profileOpen q =>
    cases h
    exact .inl (.of_eq (takeRequest_framePath_of_block (set := State.setSlots) (fun _ _ => rfl) (profileOpenOwner_state q)))
  | profileWrite q =>
    cases h
    exact .inl (.of_eq (takeRequest_framePath_of_block (set := State.setSlots) (fun _ _ => rfl) (profileWriteOwner_state q)))
  | profileClose q =>
    cases h
    exact .inl (.of_eq (takeRequest_framePath_of_block (set := State.setSlots) (fun _ _ => rfl) (profileCloseOwner_state q)))
  | profileDiscard q =>
    cases h
    exact .inl (.of_eq
      (takeRequest_framePath_of_block (set := State.setSlots) (fun _ _ => rfl) (profileDiscardOwner_state q)))
  | profileQuery q =>
    cases h; exact .inl (.of_eq (takeRequest_framePath fun t => congrArg State.framePath (profileQueryOwner_state q t)))
  | streamConfigure q => cases h; exact .inl (takeRequest_commanded fun t _ => streamConfigureOwner_commanded q t)
  | streamStart q => cases h; exact .inl (takeRequest_commanded fun _ hrun => streamStartOwner_commanded hrun)
  | streamStop q => cases h; exact .inl (takeRequest_commanded fun _ _ => .stopped)
  | stageWrite q =>
    cases h
    exact .inl (.of_eq
      (takeRequest_framePath_of_block (set := State.setSettings) (fun _ _ => rfl) (stageWriteOwner_state q)))
  | stageApply q =>
    cases h
    exact .inl (.of_eq (takeRequest_framePath fun t =>
      let ⟨_, _, h⟩ := stageApplyOwner_state q t; (congrArg State.framePath h :)))
  | rampContinue q | rampRestart q | rampNow q | rampHalt q => cases h; exact .inl (.of_eq (takeRamp_framePath _))
  | watchSet q =>
    cases h
    exact .inl (.of_eq (takeRequest_framePath_of_block (set := State.setWatches) (fun _ _ => rfl) (watchSetOwner_state q)))
  | faultRead q =>
    cases h
    exact .inl (.of_eq (takeRequest_framePath_of_block (set := State.setFaults) (fun _ _ => rfl) (faultReadOwner_state q)))
  | sample q => cases h; exact .inl (.of_eq (takeRequest_framePath (sampleOwner_framePath q)))
  | unknownKind kind q => cases h; exact .inl (.of_eq takeUnknown_framePath)
  | restartStream q =>
    cases h
    split
    · exact .inl (takeRequest_commanded fun t _ => restartOwner_commanded q t)
    · exact .inl .unchanged
  | restartWarm q | restartCold q => cases h; exact .inl (takeRestart_commanded _ _)
  | controlRecordArrival bytes | notReadyRecord bytes => cases h; exact .inl (.of_eq (controlBytes_framePath s bytes))
  | lensRecordArrival bytes => cases h; exact .inl (.of_eq (lensBytes_framePath s bytes))
  | sendReply => cases h; exact .inl (.of_eq (sendReply_framePath s))
  | sendNotice => cases h; exact .inl (.of_eq (sendNotice_framePath s))
  | sendEnd => cases h; exact .inl (.of_eq (sendEnd_framePath s))
  | powerOn =>
    cases h
    left
    split
    · exact .unchanged
    · exact commanded_of_initial s _ rfl rfl rfl
  | powerLoss =>
    cases h
    left
    split
    · exact commanded_of_initial s _ rfl rfl (congrArg (·.outputs.video) (cutSending_eq s))
    · exact .unchanged
  | resetLineAssert =>
    cases h
    left
    split
    · exact .unchanged
    · split
      · exact beginReset_commanded s ⟨.resetLine, 0⟩
      · exact .unchanged
  | resetLineRelease =>
    cases h
    left
    dsimp only
    split
    · split
      · exact finishReset_commanded (s.setResetLine false) _
      · exact .unchanged
    · exact .unchanged
  | resetEnd =>
    cases h
    left
    split
    · exact finishReset_commanded s _
    · exact .unchanged

/-- All that a step can do to the frame path; on an empty queue it idles. -/
theorem step_framePath {s t : State} (h : step s = .next t) :
    s.framePath.Commanded t.framePath ∨
      ∃ rest, (s.setPending rest).running = true ∧ (s.setPending rest).Packet t := by
  unfold step at h
  split at h
  · cases h; exact .inl .unchanged
  · rename_i rest _
    exact (exec_framePath h).imp id fun hpacket => ⟨rest, hpacket⟩

end Sys2Proof.Machine

/-! PROOFS. The pixel path stays consistent (R102, R109, R111, R112). First what the planner's and the pixel path's operations do
to the pixel path, each said once; then its consistency under the commands and under each packet; then the statement. -/

namespace Sys2Proof.Machine

/-! ### What the operations do to the pixel path -/

/-- The pixel path less the frame in progress and its rows: what nothing changes while a frame goes on. -/
def PixelPath.idle (x : PixelPath) : PixelPath := { x with lineStore := [], frame := none }

/-- The pixel path after the close of a frame (R106, R113). -/
def PixelPath.closed (x : PixelPath) : PixelPath :=
  if x.stream = .stopping then { x.idle with stream := .stopped, skip := false, orphan := false }
  else { x.idle with stream := .waiting }

/-- The close depends on what the frame leaves alone. -/
theorem closed_eq_of_idle_eq {x y : PixelPath} (h : y.idle = x.idle) : y.closed = x.closed := by
  have hstream : y.stream = x.stream := (congrArg PixelPath.stream h :)
  rw [PixelPath.closed, PixelPath.closed, h, hstream]

@[simp] theorem PixelPath.mapReport_idle (x : PixelPath) (f : FrameReport → FrameReport) : (x.mapReport f).idle = x.idle := rfl

section PixelOperations

variable (s : State)

@[simp] theorem reportFault_pixel (kind : FaultKind) (frame row : Option Nat) :
    (s.reportFault kind frame row).pixel = s.pixel := by
  unfold State.reportFault
  split <;> rfl

@[simp] theorem reportFault_outputs (kind : FaultKind) (frame row : Option Nat) :
    (s.reportFault kind frame row).outputs = s.outputs := by
  unfold State.reportFault
  split <;> rfl

@[simp] theorem reportFault_planner (kind : FaultKind) (frame row : Option Nat) :
    (s.reportFault kind frame row).planner = s.planner := by
  unfold State.reportFault
  split <;> rfl

/-- The planning of a band adds its plan to the frame report and to the end of the queue (R58, R63, R173). -/
theorem exists_planBand (c : StreamConfig) (h : FrameHeader) (b : Nat) :
    ∃ p : Plan, p.band = b ∧ (s.planBand c h b).pixel = s.pixel.mapReport (·.addPlan p) ∧
      (s.planBand c h b).planner.queue = s.planner.queue ++ [p] := by
  have hu : (s.bandApply.evaluate (bandTime c h b)).pixel = s.pixel ∧
      (s.bandApply.evaluate (bandTime c h b)).planner = s.planner := by
    unfold State.bandApply
    split <;> exact ⟨rfl, rfl⟩
  obtain ⟨hleft, hqueue, hband, -⟩ :=
    makePlan_leaves (s.bandApply.evaluate (bandTime c h b)) ⟨h.frameNumber.toNat, b, bandTime c h b⟩ c.sMax
  have hpixel := congrArg State.pixel hleft
  refine ⟨_, hband, ?_, ?_⟩
  · rw [← hu.1, ← hpixel]
    rfl
  · rw [← hu.2, ← hqueue]
    rfl

@[simp] theorem planBand_outputs (c : StreamConfig) (h : FrameHeader) (b : Nat) :
    (s.planBand c h b).outputs = s.outputs := (congrArg State.outputs (planBand_leaves s c h b) :)

@[simp] theorem planBand_idle (c : StreamConfig) (h : FrameHeader) (b : Nat) :
    (s.planBand c h b).pixel.idle = s.pixel.idle := by
  obtain ⟨p, -, hpixel, -⟩ := exists_planBand s c h b
  rw [hpixel, PixelPath.mapReport_idle]

@[simp] theorem emitHeader_idle : s.emitHeader.pixel.idle = s.pixel.idle := by
  unfold State.emitHeader
  split
  · split <;> rfl
  · rfl

@[simp] theorem emitRow_idle (c : StreamConfig) (y : Nat) : (s.emitRow c y).pixel.idle = s.pixel.idle :=
  emitHeader_idle s

@[simp] theorem releaseBelow_idle (bound : Nat) : (s.releaseBelow bound).pixel.idle = s.pixel.idle := rfl

@[simp] theorem storeRow_idle (c : StreamConfig) (r : Nat) (row : Row) : (s.storeRow c r row).pixel.idle = s.pixel.idle := rfl

@[simp] theorem afterStore_idle (c : StreamConfig) (r : Nat) : (s.afterStore c r).pixel.idle = s.pixel.idle := by
  unfold State.afterStore
  split <;> simp

/-- Operations that each leave the pixel path alone but for the frame, one after another. -/
theorem foldl_idle {α : Type} {op : State → α → State} (h : ∀ t x, (op t x).pixel.idle = t.pixel.idle) (xs : List α) :
    (xs.foldl op s).pixel.idle = s.pixel.idle :=
  List.foldlRecOn (motive := fun t => t.pixel.idle = s.pixel.idle) xs op rfl fun t ht x _ => (h t x).trans ht

@[simp] theorem shortClose_idle (c : StreamConfig) (f : Frame) : (s.shortClose c f).pixel.idle = s.pixel.idle := by
  unfold State.shortClose
  dsimp only
  rw [foldl_idle _ (fun t r => by simp [State.completionRow]), foldl_idle _ (fun t b => planBand_idle t c f.header b)]
  simp

@[simp] theorem emitRemaining_idle (c : StreamConfig) : (s.emitRemaining c).pixel.idle = s.pixel.idle :=
  foldl_idle s (fun t y => by simp [State.closingRow]) _

@[simp] theorem emitTrailer_pixel : s.emitTrailer.pixel = s.pixel := by
  unfold State.emitTrailer
  split <;> rfl

@[simp] theorem handOverReport_pixel : s.handOverReport.pixel = s.pixel := by
  unfold State.handOverReport
  split <;> rfl

/-- The end of a frame leaves the pixel path closed (R106, R113). -/
theorem endFrame_pixel : s.endFrame.pixel = s.pixel.closed := by
  unfold State.endFrame PixelPath.closed
  dsimp only
  split <;> rfl

/-- The close of a frame in progress (R113, R114). -/
theorem closeFrame_eq {s : State} {c : StreamConfig} {f : Frame} (hc : s.pixel.config = some c)
    (hf : s.pixel.frame = some f) :
    s.closeFrame =
      (((if f.report.rowsReceived < c.height then s.shortClose c f else s).emitRemaining
        c).emitTrailer.handOverReport).endFrame := by
  rw [State.closeFrame, hc, hf]

/-- The close of a frame in progress leaves the pixel path closed (R106, R113). -/
theorem closeFrame_pixel {s : State} {c : StreamConfig} {f : Frame} (hc : s.pixel.config = some c)
    (hf : s.pixel.frame = some f) : s.closeFrame.pixel = s.pixel.closed := by
  rw [closeFrame_eq hc hf, endFrame_pixel]
  refine closed_eq_of_idle_eq ?_
  rw [handOverReport_pixel, emitTrailer_pixel, emitRemaining_idle]
  split <;> simp

@[simp] theorem planBand_lineStore (c : StreamConfig) (h : FrameHeader) (b : Nat) :
    (s.planBand c h b).pixel.lineStore = s.pixel.lineStore := by
  obtain ⟨p, -, hpixel, -⟩ := exists_planBand s c h b
  rw [hpixel]
  rfl

@[simp] theorem emitRow_lineStore (c : StreamConfig) (y : Nat) :
    (s.emitRow c y).pixel.lineStore = s.pixel.lineStore := by
  show s.emitHeader.pixel.lineStore = s.pixel.lineStore
  unfold State.emitHeader
  split
  · split <;> rfl
  · rfl

@[simp] theorem announce_pixel : s.announce.pixel = s.pixel := by
  unfold State.announce
  split <;> rfl

end PixelOperations

/-! ### A consistent pixel path -/

/-- The pixel path is consistent in itself, whether or not the part runs (R102, R109, R111). -/
structure PixelPath.Consistent (x : PixelPath) : Prop where
  accepted   : ∀ c ∈ x.config, ConfigOk c
  frame_iff  : x.frame.isSome = true ↔ x.stream = .inFrame ∨ x.stream = .stopping
  configured : x.stream ≠ .stopped → x.config.isSome = true
  store_nil  : x.frame = none → x.lineStore = []
  flags      : x.stream = .stopped → x.skip = false ∧ x.orphan = false
  frameOk    : ∀ c ∈ x.config, ∀ f ∈ x.frame, FrameOk c f x.lineStore

/-- The frame path is consistent: its pixel path is, and the stream is STOPPED where the part does not run (R102). -/
structure FramePath.Consistent (x : FramePath) : Prop where
  pixel   : x.pixel.Consistent
  stopped : x.running = false → x.pixel.stream = .stopped

/-- The invariant of the pixel path is the consistency of the frame path. -/
theorem pixelInv_iff {s : State} : s.PixelInv ↔ s.framePath.Consistent :=
  ⟨fun ⟨h1, h2, h3, h4, h5, h6, h7⟩ => ⟨⟨h1, h2, h3, h4, h5, h7⟩, h6⟩,
    fun ⟨⟨h1, h2, h3, h4, h5, h7⟩, h6⟩ => ⟨h1, h2, h3, h4, h5, h6, h7⟩⟩

/-- The row indices held are no more than the depth (R111). -/
theorem heldIndices_length_le (c : StreamConfig) (received : Nat) : (heldIndices c received).length ≤ c.depth := by
  rw [heldIndices, List.length_range']
  omega

namespace PixelPath.Consistent

variable {x : PixelPath} (h : x.Consistent)

include h

/-- The line store holds no more rows than its capacity (R112). -/
theorem lineStore_length_le {c : StreamConfig} (hc : c ∈ x.config) : x.lineStore.length ≤ c.capacity := by
  have hdepth : c.depth ≤ c.capacity := by
    obtain ⟨-, -, -, -, -, -, -, -, -, -, -, -, -, -, -, -, -, -, hdepth⟩ := h.accepted c hc
    exact hdepth
  cases hf : x.frame with
  | none => rw [h.store_nil hf]; exact Nat.zero_le _
  | some f =>
    obtain ⟨-, -, -, -, -, -, -, -, -, hheld, -⟩ := h.frameOk c hc f hf
    calc x.lineStore.length = (heldIndices c f.report.rowsReceived).length := by rw [← hheld, List.length_map]
      _ ≤ c.depth := heldIndices_length_le c _
      _ ≤ c.capacity := hdepth

/-- No frame is in progress in STOPPED and in WAITING (R102). -/
theorem frame_eq_none (hstream : x.stream = .stopped ∨ x.stream = .waiting) : x.frame = none := by
  rw [← Option.not_isSome_iff_eq_none, h.frame_iff]
  rcases hstream with hstream | hstream <;> simp [hstream]

/-- A pixel path that differs in the frame in progress and the rows held is consistent when these agree with the
configuration. -/
theorem of_frameOk {y : PixelPath} {g : Frame} (hidle : y.idle = x.idle) (hframe : x.frame.isSome = true)
    (hg : y.frame = some g) (hok : ∀ c ∈ x.config, FrameOk c g y.lineStore) : y.Consistent := by
  obtain ⟨hstream, hconfig, -, -, -, hskip, horphan⟩ := PixelPath.mk.inj hidle
  refine ⟨hconfig ▸ h.accepted, ?_, ?_, ?_, ?_, ?_⟩
  · rw [hstream, ← h.frame_iff, hframe, hg]
    rfl
  · rw [hstream, hconfig]
    exact h.configured
  · rw [hg]
    nofun
  · rw [hstream, hskip, horphan]
    exact h.flags
  · rw [hconfig, hg]
    exact fun c hc f hf => Option.some.inj hf ▸ hok c hc

end PixelPath.Consistent

/-- A pixel path with no frame in progress and no row held is consistent when it is STOPPED with both flags clear, or WAITING and
configured. -/
theorem consistent_of_no_frame {x : PixelPath} (hc : ∀ c ∈ x.config, ConfigOk c) (hframe : x.frame = none)
    (hstore : x.lineStore = [])
    (hstream : x.stream = .stopped ∧ x.skip = false ∧ x.orphan = false ∨ x.stream = .waiting ∧ x.config.isSome = true) :
    x.Consistent where
  accepted := hc
  frame_iff := by rcases hstream with ⟨h, -⟩ | ⟨h, -⟩ <;> simp [hframe, h]
  configured hne := by
    rcases hstream with ⟨h, -⟩ | ⟨-, h⟩
    · exact absurd h hne
    · exact h
  store_nil _ := hstore
  flags hstopped := by
    rcases hstream with ⟨-, h⟩ | ⟨h, -⟩
    · exact h
    · exact absurd (h.symm.trans hstopped) nofun
  frameOk _ _ f hf := by rw [hframe] at hf; cases hf

/-! ### The commands -/

/-- STREAM_STOP keeps the pixel path consistent (R106). -/
theorem stop_consistent {x : PixelPath} (h : x.Consistent) : x.stop.Consistent := by
  unfold PixelPath.stop
  split
  · rename_i hwaiting
    exact consistent_of_no_frame h.accepted (h.frame_eq_none (.inr hwaiting)) rfl (.inl ⟨rfl, rfl, rfl⟩)
  · rename_i hframe
    exact
      { accepted := h.accepted
        frame_iff := by simpa [hframe] using h.frame_iff
        configured := fun _ => h.configured (by simp [hframe])
        store_nil := h.store_nil
        flags := nofun
        frameOk := h.frameOk }
  · exact h

/-- A STOPPED stream stays STOPPED under STREAM_STOP (R106). -/
theorem stop_stream_of_stopped {x : PixelPath} (h : x.stream = .stopped) : x.stop.stream = .stopped := by
  simp [PixelPath.stop, h]

/-- A command that is no packet keeps the frame path consistent. -/
theorem FramePath.Commanded.consistent {x y : FramePath} (h : x.Commanded y) (hx : x.Consistent) : y.Consistent := by
  obtain ⟨hpixel, hrun⟩ := hx
  cases h with
  | unchanged => exact ⟨hpixel, hrun⟩
  | configured hstopped hc =>
    have hconfig (c' : StreamConfig) (h : c' ∈ some _) : ConfigOk c' := Option.some.inj h ▸ hc
    have hframe := hpixel.frame_eq_none (.inl hstopped)
    exact ⟨consistent_of_no_frame hconfig hframe rfl (.inl ⟨hstopped, hpixel.flags hstopped⟩), hrun⟩
  | started hrunning hstopped hc =>
    have hframe := hpixel.frame_eq_none (.inl hstopped)
    exact ⟨consistent_of_no_frame hpixel.accepted hframe (hpixel.store_nil hframe) (.inr ⟨rfl, hc⟩),
      fun hr => absurd (hrunning.symm.trans hr) nofun⟩
  | stopped => exact ⟨stop_consistent hpixel, fun hr => stop_stream_of_stopped (hrun hr)⟩
  | aborted running => exact ⟨consistent_of_no_frame hpixel.accepted rfl rfl (.inl ⟨rfl, rfl, rfl⟩), fun _ => rfl⟩
  | returned running lastFrame hc =>
    exact ⟨consistent_of_no_frame (fun c h => hpixel.accepted c (hc c h)) rfl rfl (.inl ⟨rfl, rfl, rfl⟩), fun _ => rfl⟩

/-! ### The arrival of a row -/

/-- The rows of a band are at least one (R54, R103). -/
theorem ConfigOk.hb_pos {c : StreamConfig} (h : ConfigOk c) : 0 < c.hb := by
  obtain ⟨-, -, hheight, -, hbands, -, -, -, -, -, -, -, hhb, -⟩ := h
  rw [hhb]
  exact Nat.div_pos (by omega) (by omega)

/-- The depth of an accepted configuration (R104). -/
theorem ConfigOk.depth_eq {c : StreamConfig} (h : ConfigOk c) : c.depth = c.lag + c.lead + 2 := by
  obtain ⟨-, -, -, -, -, -, -, -, -, -, -, -, -, -, -, -, hdepth, -⟩ := h
  exact hdepth

/-- A band starts at every row whose index is a multiple of the band height (R54, R56). -/
theorem bands_succ {hb : Nat} (h : 0 < hb) (r : Nat) :
    (r + 1 + hb - 1) / hb = (r + hb - 1) / hb + (if r % hb = 0 then 1 else 0) := by
  rw [show r + 1 + hb - 1 = r + hb - 1 + 1 by omega, Nat.succ_div, show r + hb - 1 + 1 = r + hb by omega]
  simp [Nat.dvd_iff_mod_eq_zero]

/-- A frame that goes on: what the planning of bands and the emission of rows add to it, and what they leave of it. -/
structure Frame.Advanced (f g : Frame) (bands rows : Nat) : Prop where
  header    : g.header = f.header
  sent      : g.headerSent = true ↔ f.headerSent = true ∨ 0 < rows
  number    : g.report.frameNumber = f.report.frameNumber
  received  : g.report.rowsReceived = f.report.rowsReceived
  emitted   : g.report.rowsEmitted = f.report.rowsEmitted + rows
  planned   : g.report.bandsPlanned = f.report.bandsPlanned + bands
  truncated : g.report.truncated = f.report.truncated
  aborted   : g.report.aborted = f.report.aborted

theorem Frame.Advanced.refl (f : Frame) : f.Advanced f 0 0 := by
  constructor <;> simp

theorem Frame.Advanced.trans {f g k : Frame} {b b' n n' : Nat} (h : f.Advanced g b n) (h' : g.Advanced k b' n') :
    f.Advanced k (b + b') (n + n') where
  header := h'.header.trans h.header
  sent := by rw [h'.sent, h.sent, or_assoc, Nat.add_pos_iff_pos_or_pos]
  number := h'.number.trans h.number
  received := h'.received.trans h.received
  emitted := by rw [h'.emitted, h.emitted, Nat.add_assoc]
  planned := by rw [h'.planned, h.planned, Nat.add_assoc]
  truncated := h'.truncated.trans h.truncated
  aborted := h'.aborted.trans h.aborted

section Advancing

variable {s : State} {f : Frame} (hf : s.pixel.frame = some f)

include hf

/-- The planning of a band adds one band to the frame (R173). -/
theorem planBand_advanced (c : StreamConfig) (h : FrameHeader) (b : Nat) :
    ∃ g, (s.planBand c h b).pixel.frame = some g ∧ f.Advanced g 1 0 := by
  obtain ⟨p, -, hpixel, -⟩ := exists_planBand s c h b
  refine ⟨{ f with report := f.report.addPlan p }, ?_, ?_⟩
  · rw [hpixel, PixelPath.mapReport, hf]
    rfl
  · constructor <;> simp [FrameReport.addPlan]

/-- The emission of a row adds one row to the frame, and its header has left (R121, R173). -/
theorem emitRow_advanced (c : StreamConfig) (y : Nat) :
    ∃ g, (s.emitRow c y).pixel.frame = some g ∧ f.Advanced g 0 1 := by
  rw [emitRow_eq c y hf]
  refine ⟨_, rfl, ?_⟩
  constructor <;> simp [FrameReport.addRow]

/-- Step 3 of a row's arrival emits a row once the lag is filled (R109). -/
theorem afterStore_advanced (c : StreamConfig) (r : Nat) :
    ∃ g, (s.afterStore c r).pixel.frame = some g ∧ f.Advanced g 0 (if c.lag ≤ r then 1 else 0) := by
  unfold State.afterStore
  split
  · exact emitRow_advanced hf c _
  · exact ⟨f, hf, .refl f⟩

end Advancing

/-- Steps 3 and 4 of a row's arrival release the rows below the oldest that is still needed (R109, R111). -/
theorem afterStore_lineStore (s : State) (c : StreamConfig) (r : Nat) :
    (s.afterStore c r).pixel.lineStore = releaseRows (r - c.lag - c.lead - 1) s.pixel.lineStore := by
  unfold State.afterStore State.releaseBelow
  split <;> simp

/-- The frame with one row more received. -/
def Frame.countRow (f : Frame) : Frame := { f with report := { f.report with rowsReceived := f.report.rowsReceived + 1 } }

@[simp] theorem Frame.countRow_header (f : Frame) : f.countRow.header = f.header := rfl
@[simp] theorem Frame.countRow_headerSent (f : Frame) : f.countRow.headerSent = f.headerSent := rfl
@[simp] theorem Frame.countRow_rowsEmitted (f : Frame) : f.countRow.report.rowsEmitted = f.report.rowsEmitted := rfl
@[simp] theorem Frame.countRow_bandsPlanned (f : Frame) : f.countRow.report.bandsPlanned = f.report.bandsPlanned := rfl

/-- An accepted row after steps 1 and 2 of R109: counted, stored, and the band that it starts planned. -/
def State.rowStored (s : State) (c : StreamConfig) (f : Frame) (row : Row) : State :=
  let r := f.report.rowsReceived
  let stored := (s.setPixel (s.pixel.mapReport fun x => { x with rowsReceived := r + 1 })).storeRow c r (fitRow c.width row)
  if r % c.hb = 0 then stored.planBand c f.header (r / c.hb) else stored

/-- The arrival of an accepted row is its storing and the steps after it (R109). -/
theorem acceptRow_eq (s : State) (c : StreamConfig) (f : Frame) (row : Row) :
    s.acceptRow c f row = (s.rowStored c f row).afterStore c f.report.rowsReceived := rfl

section Storing

variable {s : State} {c : StreamConfig} {f : Frame} (row : Row)

theorem rowStored_idle : (s.rowStored c f row).pixel.idle = s.pixel.idle := by
  unfold State.rowStored
  dsimp only
  split <;> simp

theorem rowStored_lineStore :
    (s.rowStored c f row).pixel.lineStore =
      storeRow c.depth s.pixel.lineStore f.report.rowsReceived (fitRow c.width row) := by
  unfold State.rowStored
  dsimp only
  split
  · rw [planBand_lineStore]
    rfl
  · rfl

theorem rowStored_advanced (hf : s.pixel.frame = some f) :
    ∃ g, (s.rowStored c f row).pixel.frame = some g ∧
      f.countRow.Advanced g (if f.report.rowsReceived % c.hb = 0 then 1 else 0) 0 := by
  have hcounted (row : Row) : ((s.setPixel (s.pixel.mapReport fun x =>
      { x with rowsReceived := f.report.rowsReceived + 1 })).storeRow c f.report.rowsReceived row).pixel.frame =
        some f.countRow := by
    simp [State.storeRow, PixelPath.mapReport, hf, Frame.countRow]
  unfold State.rowStored
  dsimp only
  split
  · exact planBand_advanced (hcounted _) c f.header _
  · exact ⟨_, hcounted _, .refl _⟩

/-- What an accepted row makes of the frame in progress (R109). -/
theorem acceptRow_advanced (hf : s.pixel.frame = some f) :
    ∃ g, (s.acceptRow c f row).pixel.frame = some g ∧
      f.countRow.Advanced g (if f.report.rowsReceived % c.hb = 0 then 1 else 0)
        (if c.lag ≤ f.report.rowsReceived then 1 else 0) := by
  obtain ⟨g, hg, hstored⟩ := rowStored_advanced (c := c) row hf
  obtain ⟨k, hk, hafter⟩ := afterStore_advanced hg c f.report.rowsReceived
  exact ⟨k, hk, by simpa using hstored.trans hafter⟩

end Storing

/-- The store after an accepted row holds the rows of R111: the oldest gives way to the new one, and none is released. -/
theorem acceptRow_indices {c : StreamConfig} (hdepth : c.depth = c.lag + c.lead + 2) {store : List (Nat × Row)} {r : Nat}
    (hheld : store.map Prod.fst = heldIndices c r) (row : Row) :
    (releaseRows (r - c.lag - c.lead - 1) (storeRow c.depth store r row)).map Prod.fst = heldIndices c (r + 1) := by
  have hstored := storeRow_indices (row := row) (by omega : 0 < c.depth) hheld
  rw [releaseRows_indices hstored, heldIndices, show max (r + 1 - c.depth) (r - c.lag - c.lead - 1) = r + 1 - c.depth by omega]
  congr 1
  omega

/-- Every row held after a row is stored and rows are released was held before, or is the row stored. -/
theorem mem_releaseRows_storeRow {bound depth r : Nat} {store : List (Nat × Row)} {row : Row} {e : Nat × Row}
    (h : e ∈ releaseRows bound (storeRow depth store r row)) : e ∈ store ∨ e = (r, row) := by
  rcases List.mem_append.mp (List.mem_filter.mp h).1 with h | h
  · exact .inl (List.mem_filter.mp h).1
  · exact .inr (List.mem_singleton.mp h)

/-- An accepted row keeps the frame in agreement with its configuration (R109, R111, R121). -/
theorem FrameOk.of_acceptRow {c : StreamConfig} (hc : ConfigOk c) {f g : Frame} {store : List (Nat × Row)}
    (h : FrameOk c f store) (hreceived : f.report.rowsReceived < c.height) (row : Row)
    (hg : f.countRow.Advanced g (if f.report.rowsReceived % c.hb = 0 then 1 else 0)
      (if c.lag ≤ f.report.rowsReceived then 1 else 0)) :
    FrameOk c g (releaseRows (f.report.rowsReceived - c.lag - c.lead - 1)
      (storeRow c.depth store f.report.rowsReceived (fitRow c.width row))) := by
  obtain ⟨hwidth, hheight, hnumber, -, hemitted, hplanned, hsent, htruncated, haborted, hheld, hrows⟩ := h
  have hreceived' : g.report.rowsReceived = f.report.rowsReceived + 1 := hg.received
  have hemitted' : g.report.rowsEmitted = f.report.rowsReceived + 1 - c.lag := by
    rw [hg.emitted, Frame.countRow_rowsEmitted, hemitted]
    split <;> omega
  have hsent' : g.headerSent = true ↔ 0 < g.report.rowsEmitted := by
    rw [hg.sent, hg.emitted, Frame.countRow_headerSent, Frame.countRow_rowsEmitted, hsent, Nat.add_pos_iff_pos_or_pos]
  refine ⟨hg.header ▸ hwidth, hg.header ▸ hheight, ?_, ?_, ?_, ?_, hsent', hg.truncated.trans htruncated,
    hg.aborted.trans haborted, ?_, fun e he => ?_⟩
  · rw [hg.number, hg.header]
    exact hnumber
  · omega
  · rw [hemitted', hreceived']
  · rw [hg.planned, hreceived', bands_succ hc.hb_pos, ← hplanned, Frame.countRow_bandsPlanned]
  · rw [hreceived']
    exact acceptRow_indices hc.depth_eq hheld _
  · rcases mem_releaseRows_storeRow he with he | rfl
    · exact hrows e he
    · exact fitRow_length _ _

/-- An accepted row keeps the pixel path consistent (R109). -/
theorem acceptRow_consistent {s : State} {c : StreamConfig} {f : Frame} (h : s.pixel.Consistent)
    (hc : s.pixel.config = some c) (hf : s.pixel.frame = some f) (hreceived : f.report.rowsReceived < c.height) (row : Row) :
    (s.acceptRow c f row).pixel.Consistent := by
  obtain ⟨g, hg, hadvanced⟩ := acceptRow_advanced (c := c) row hf
  have hidle : (s.acceptRow c f row).pixel.idle = s.pixel.idle := by rw [acceptRow_eq, afterStore_idle, rowStored_idle]
  refine h.of_frameOk hidle (by rw [hf]; rfl) hg fun c' hc' => ?_
  obtain rfl : c = c' := Option.some.inj (hc.symm.trans hc')
  rw [acceptRow_eq, afterStore_lineStore, rowStored_lineStore]
  exact (h.frameOk c hc' f hf).of_acceptRow (h.accepted c hc') hreceived row hadvanced

/-- A row past the H-th marks the frame LONG and nothing else of it (R115). -/
theorem extraRow_consistent {s : State} {f : Frame} (h : s.pixel.Consistent) (hf : s.pixel.frame = some f) (c : StreamConfig) :
    (s.extraRow c f).pixel.Consistent := by
  unfold State.extraRow
  split
  · exact h
  · rw [reportFault_pixel]
    refine h.of_frameOk (g := { f with report := { f.report with long := true } }) rfl (by rw [hf]; rfl) ?_ fun c' hc' => ?_
    · simp [PixelPath.mapReport, hf]
    · exact h.frameOk c' hc' f hf

/-- A row with no frame in progress keeps the pixel path consistent (R117). -/
theorem strayRow_consistent {s : State} (h : s.pixel.Consistent) (hwaiting : s.pixel.stream = .waiting) :
    s.strayRow.pixel.Consistent := by
  unfold State.strayRow
  split
  · exact h
  · have hframe := h.frame_eq_none (.inr hwaiting)
    rw [reportFault_pixel]
    exact consistent_of_no_frame h.accepted hframe (h.store_nil hframe)
      (.inr ⟨hwaiting, h.configured (by simp [hwaiting])⟩)

/-- The arrival of a row keeps the pixel path consistent (R109, R115, R117). -/
theorem rowArrives_consistent {s : State} (h : s.pixel.Consistent) (row : Row) : (s.rowArrives row).pixel.Consistent := by
  unfold State.rowArrives
  split
  · exact h
  · exact strayRow_consistent h ‹_›
  · split
    · rename_i c f hc hf
      split
      · exact acceptRow_consistent h hc hf ‹_› row
      · exact extraRow_consistent h hf c
    · exact h

/-! ### The close of a frame and the arrival of a header -/

/-- The close of a frame in progress keeps the pixel path consistent (R113). -/
theorem closed_consistent {x : PixelPath} (h : x.Consistent) (hconfig : x.config.isSome = true) : x.closed.Consistent := by
  unfold PixelPath.closed
  split
  · exact consistent_of_no_frame h.accepted rfl rfl (.inl ⟨rfl, rfl, rfl⟩)
  · exact consistent_of_no_frame h.accepted rfl rfl (.inr ⟨rfl, hconfig⟩)

theorem closeFrame_consistent {s : State} (h : s.pixel.Consistent) : s.closeFrame.pixel.Consistent := by
  cases hc : s.pixel.config with
  | none =>
    rw [State.closeFrame, hc]
    exact h
  | some c =>
    cases hf : s.pixel.frame with
    | none =>
      rw [State.closeFrame, hc, hf]
      exact h
    | some f =>
      rw [closeFrame_pixel hc hf]
      exact closed_consistent h (by rw [hc]; rfl)

theorem closeIfOpen_consistent {s : State} (h : s.pixel.Consistent) : s.closeIfOpen.pixel.Consistent := by
  unfold State.closeIfOpen
  split
  · exact closeFrame_consistent h
  · exact closeFrame_consistent h
  · exact h

/-- A frame whose header has just arrived agrees with a configuration of its width and height (R108). -/
theorem frameOk_initial {c : StreamConfig} (hc : ConfigOk c) {h : FrameHeader} (hwidth : h.width = c.width)
    (hheight : h.height = c.height) : FrameOk c ⟨h, false, FrameReport.initial h.frameNumber.toNat⟩ [] := by
  have hplanned : 0 = (0 + c.hb - 1) / c.hb :=
    (Nat.div_eq_of_lt (by have := hc.hb_pos; omega)).symm
  refine ⟨hwidth, hheight, rfl, Nat.zero_le _, (Nat.zero_sub _).symm, hplanned, by simp [FrameReport.initial], rfl, rfl, ?_,
    nofun⟩
  simp [heldIndices, FrameReport.initial]

/-- A header in WAITING keeps the pixel path consistent: it starts a frame, or its rows are to be skipped (R108, R116). -/
theorem judgeHeader_consistent {s : State} (h : s.pixel.Consistent) (hwaiting : s.pixel.stream = .waiting)
    (header : FrameHeader) : (s.judgeHeader header).pixel.Consistent := by
  have hframe := h.frame_eq_none (.inr hwaiting)
  have hconfig := h.configured (by simp [hwaiting])
  unfold State.judgeHeader
  dsimp only
  split
  · rename_i hmatch
    obtain ⟨c, hc⟩ := Option.isSome_iff_exists.mp hconfig
    obtain ⟨hwidth, hheight⟩ : header.width = c.width ∧ header.height = c.height := by
      simpa [hc, headerMatches] using hmatch
    rw [State.startFrame, announce_pixel]
    exact
      { accepted := h.accepted
        frame_iff := by simp
        configured := fun _ => hconfig
        store_nil := nofun
        flags := nofun
        frameOk := fun c' hc' f hf => by
          obtain rfl : c = c' := Option.some.inj (hc.symm.trans hc')
          obtain rfl := Option.some.inj hf
          rw [State.setPixel_pixel, State.setPixel_pixel, h.store_nil hframe]
          exact frameOk_initial (h.accepted c hc') hwidth hheight }
  · rw [reportFault_pixel]
    exact consistent_of_no_frame h.accepted hframe (h.store_nil hframe) (.inr ⟨hwaiting, hconfig⟩)

/-- The arrival of a header keeps the pixel path consistent (R108, R113, R116). -/
theorem headerArrives_consistent {s : State} (h : s.pixel.Consistent) (header : FrameHeader) :
    (s.headerArrives header).pixel.Consistent := by
  have hclosed := closeIfOpen_consistent h
  unfold State.headerArrives
  dsimp only
  split
  · exact judgeHeader_consistent hclosed ‹_› header
  · exact hclosed

/-- The arrival of an end keeps the pixel path consistent (R113, R116, R117). -/
theorem endArrives_consistent {s : State} (h : s.pixel.Consistent) : s.endArrives.pixel.Consistent := by
  unfold State.endArrives
  split
  · exact h
  · rename_i hwaiting
    have hframe := h.frame_eq_none (.inr hwaiting)
    exact consistent_of_no_frame h.accepted hframe (h.store_nil hframe)
      (.inr ⟨hwaiting, h.configured (by simp [hwaiting])⟩)
  · exact closeFrame_consistent h

/-! ### Every step -/

/-- The part runs exactly as its supply and its resets let it. -/
theorem running_eq_of_linkSide_eq {s t : State} (h : t.linkSide = s.linkSide) : t.running = s.running := by
  have hpowered : t.powered = s.powered := congrArg LinkSide.powered h
  have hreset : t.resetRun = s.resetRun := congrArg LinkSide.resetRun h
  rw [State.running, State.running, hpowered, hreset]

/-- A packet keeps the pixel path consistent, and the part goes on running. -/
theorem State.Packet.consistent {s t : State} (h : s.Packet t) (hrun : s.running = true) (hs : s.pixel.Consistent) :
    t.framePath.Consistent := by
  have running {u : State} (hu : u.linkSide = s.linkSide) (hpixel : u.pixel.Consistent) : u.framePath.Consistent :=
    ⟨hpixel, fun hr => absurd (hrun.symm.trans ((running_eq_of_linkSide_eq hu).symm.trans hr)) nofun⟩
  cases h with
  | header x => exact running (headerArrives_linkSide s x) (headerArrives_consistent hs x)
  | row row => exact running (rowArrives_linkSide s row) (rowArrives_consistent hs row)
  | frameEnd => exact running (endArrives_linkSide s) (endArrives_consistent hs)

/-- Every step keeps the invariant of the pixel path. -/
theorem step_pixelInv {s t : State} (hs : s.PixelInv) (h : step s = .next t) : t.PixelInv := by
  have hconsistent := pixelInv_iff.mp hs
  refine pixelInv_iff.mpr ?_
  rcases step_framePath h with hcommand | ⟨rest, hrun, hpacket⟩
  · exact hcommand.consistent hconsistent
  · exact hpacket.consistent hrun hconsistent.pixel

/-- Settles O48: every step keeps the invariant, and the invariant bounds the line store. -/
theorem pixelInvariantKept : Obligations.PixelInvariantKept := fun _ _ hs h =>
  have ht := step_pixelInv hs h
  ⟨ht, fun _ hc => (pixelInv_iff.mp ht).pixel.lineStore_length_le hc⟩

end Sys2Proof.Machine

/-! PROOFS. STREAM_CONFIGURE (R103, R104, R54): its fields as the statement names them, its owner by the checks in their order,
and the statement. -/

namespace Sys2Proof.Machine

/-! ### The fields of STREAM_CONFIGURE -/

/-- The fields of a STREAM_CONFIGURE, a GEOMETRIC centre replaced by the pair it stands for (R103). -/
def centredFields (body : List Byte) : ConfigureFields :=
  { width := fieldAt body 0 2, height := fieldAt body 2 2, bands := fieldAt body 4 2, sMax := fieldAt body 6 4
    form := fieldAt body 10 1
    cx2 := if fieldAt body 10 1 = 1 then fieldAt body 0 2 - 1 else fieldAt body 11 2
    cy2 := if fieldAt body 10 1 = 1 then fieldAt body 2 2 - 1 else fieldAt body 13 2
    ax := fieldAt body 15 2, ay := fieldAt body 17 2 }

/-- The fields that are judged are those of the body with the centre as a pair (R103). -/
theorem configureFields_centred (body : List Byte) : (configureFields body).centred = centredFields body := by
  unfold ConfigureFields.centred centredFields configureFields
  split <;> rfl

/-- The figures that a reply to STREAM_CONFIGURE carries (R104). -/
def StreamConfig.figures (c : StreamConfig) : List Byte :=
  leBytes 2 c.lag ++ leBytes 2 c.lead ++ leBytes 2 c.depth ++ leBytes 2 c.capacity

/-! ### The owner of STREAM_CONFIGURE -/

/-- Outside STOPPED the request is refused (R103). -/
theorem streamConfigureOwner_of_not_stopped {q : Request} {s : State} (h : s.pixel.stream ≠ .stopped) :
    streamConfigureOwner q s = refuse .badState s := if_pos h

/-- In STOPPED the fields are judged, then the depth (R103, R104). -/
theorem streamConfigureOwner_of_stopped {q : Request} {s : State} (h : s.pixel.stream = .stopped) :
    streamConfigureOwner q s =
      let c := (centredFields q.body).configuration
      if (centredFields q.body).good = false then refuse .badValue s
      else if c.capacity < c.depth then answer .capacity c.figures s
      else
        answer .ok (c.figures ++ leBytes 2 c.hb ++ leBytes 2 c.bandCount)
          (s.setPixel { s.pixel with config := some c, lineStore := [] }) := by
  rw [streamConfigureOwner, if_neg (not_not.mpr h), configureFields_centred]
  simp only [Bool.not_eq_true']
  rfl

/-- STREAM_CONFIGURE is the taking of its request for the pixel path. -/
theorem exec_streamConfigure (q : Request) (s : State) :
    exec (.streamConfigure q) s = .next (takeRequest 0x0A q (streamConfigureOwner q) s) := rfl

/-- The taking of a record and a change of the pixel path do not meet. -/
theorem removeOldest_setPixel (s : State) (x : PixelPath) : s.removeOldest.setPixel x = (s.setPixel x).removeOldest := rfl

/-- Settles O42, check by check of R103 and R104. -/
theorem streamConfigureDerivesTheDepth : Obligations.StreamConfigureDerivesTheDepth := by
  intro q s hlength ht w h b sMax form cx2 cy2 ax ay good lag lead depth capacity hb bandCount figures
  have hl : lengthAgrees 0x0A q.body.length = true := by rw [hlength]; rfl
  have hgood : (centredFields q.body).good = true ↔ good := ConfigureFields.good_iff
  have howner (hstopped : s.pixel.stream = .stopped) :=
    streamConfigureOwner_of_stopped (q := q) (s := s.removeOldest) hstopped
  simp only [exec_streamConfigure]
  refine ⟨fun hstream => ?_, fun hstopped hbad => ?_, fun hstopped hok hdeep => ?_, fun hstopped hok hfits => ?_⟩
  · rw [takeRequest_of_refusal ht hl (streamConfigureOwner_of_not_stopped hstream)]
  · have hbad' : (centredFields q.body).good = false := by rw [← Bool.not_eq_true, hgood]; exact hbad
    rw [takeRequest_of_refusal ht hl ((howner hstopped).trans (if_pos hbad'))]
  · have hok' : ¬ (centredFields q.body).good = false := by rw [Bool.not_eq_false, hgood]; exact hok
    rw [takeRequest_of_refusal ht hl ((howner hstopped).trans ((if_neg hok').trans (if_pos hdeep)))]
    rfl
  · have hok' : ¬ (centredFields q.body).good = false := by rw [Bool.not_eq_false, hgood]; exact hok
    have hfits' : ¬ (centredFields q.body).configuration.capacity < (centredFields q.body).configuration.depth :=
      Nat.not_lt.mpr hfits
    rw [takeRequest_of_answer ht hl ((howner hstopped).trans ((if_neg hok').trans ((if_neg hfits').trans
      (congrArg (answer .ok _) (removeOldest_setPixel s _)))))]
    rfl

end Sys2Proof.Machine

/-! PROOFS. The identity at strength 0 (R122). First the resampler and the gain stage at unity, which give back the row they read;
then the plan and the row that an output row is made from, and what leaves them alone; then the emission of rows at a close, and
the statement. -/

namespace Sys2Proof.Machine

/-! ### The resampler and the gain stage at unity (R118 to R120) -/

/-- A whole multiple of the divisor is rounded to its quotient. -/
theorem roundDiv_mul_self (n : Int) {den : Nat} (h : 0 < den) : roundDiv (n * den) den = n := by
  have hsplit : 2 * (n * den) + (den : Int) = den + n * (2 * den) := by ring
  have hrest : (den : Int) / (2 * den) = 0 := Int.ediv_eq_zero_of_lt (by omega) (by omega)
  rw [roundDiv, hsplit, Int.add_mul_ediv_right _ _ (by omega), hrest, Int.zero_add]

/-- At unity scale an output column or row stands at its own place (R118). -/
theorem sourcePosition_unity (centre2 x : Nat) : sourcePosition centre2 65536 x = 256 * (x : Int) := by
  have hsplit : (2 * (x : Int) - centre2) * 8388608 = ((2 * (x : Int) - centre2) * 128) * (65536 : Nat) := by
    push_cast
    ring
  rw [sourcePosition, hsplit, roundDiv_mul_self _ (by decide)]
  ring

/-- At its own place a sample is the input sample (R119). -/
theorem bilinear_zero (p00 p10 p01 p11 : Nat) : bilinear 0 0 p00 p10 p01 p11 = p00 := by
  have hsum : (256 - 0) * (256 - 0) * p00 + 0 * (256 - 0) * p10 + (256 - 0) * 0 * p01 + 0 * 0 * p11 = p00 * 65536 := by
    ring
  rw [bilinear, hsum, Nat.cast_mul, roundDiv_mul_self _ (by decide), Int.toNat_natCast]

/-- Unity gain leaves a level as it is (R120). -/
theorem applyGain_unity (level : Level) : applyGain level.toNat 4096 = ⟨level, false⟩ := by
  have hlevel := level.isLt
  rw [applyGain, roundDiv_mul_self _ (by decide), Int.toNat_natCast, if_neg (by omega),
    BitVec.ofNat_toNat, BitVec.setWidth_eq]

/-- An interpolation between equal values is that value. -/
theorem interpolate_self (a num : Nat) {den : Nat} (h : 0 < den) : interpolate a a num den = a := by
  have hnone : ((a : Int) - a) * num = 0 * den := by ring
  rw [interpolate, hnone, roundDiv_mul_self _ h, Int.add_zero, Int.toNat_natCast]

/-- The knots of a neutral plan are all at unity (R94). -/
theorem knotAt_neutralKnots (c q : Nat) : knotAt neutralKnots c q = 4096 := by
  rw [knotAt, neutralKnots, List.getD_eq_getElem?_getD, List.getElem?_getD_replicate_default_eq]

/-- The knots of a neutral plan make unity gain at every radius (R94, R98). -/
theorem gainAt_neutralKnots (c rho : Nat) : gainAt neutralKnots c rho = 4096 := by
  unfold gainAt
  simp only [knotAt_neutralKnots, interpolate_self _ _ (by decide : 0 < 4096), ite_self]

/-- A row's own place and unity gain give back its colour (R119, R120). -/
theorem outputLevel_unity (t : Taps) (hx : t.fx = 0) (hy : t.fy = 0) (colour : Pixel → Level) :
    outputLevel t colour 4096 = ⟨colour t.p00, false⟩ := by
  rw [outputLevel, hx, hy, bilinear_zero, applyGain_unity]

/-- At unity scale and unity gain an output pixel is the input pixel of its place (R122). -/
theorem outputPixel_unity (c : StreamConfig) (upper lower : Row) (y x : Nat) :
    outputPixel c 65536 neutralKnots upper lower (256 * (y : Int)) x = (pixelAt upper c.width x, 0) := by
  have hplace (n : Nat) : ((256 * (n : Int)) / 256).toNat = n ∧ ((256 * (n : Int)) % 256).toNat = 0 := by omega
  simp only [outputPixel, sourcePosition_unity, (hplace x).1, (hplace x).2, (hplace y).2, gainAt_neutralKnots]
  simp [outputLevel_unity]

/-- At unity scale and unity gain an output row is the held row of its index, when that is as wide as the stream (R122). -/
theorem outputPixels_unity {c : StreamConfig} {store : List (Nat × Row)} {y : Nat}
    (hwidth : (heldRow store y).length = c.width) :
    (outputPixels c 65536 neutralKnots store y).map Prod.fst = heldRow store y := by
  have hy : ((256 * (y : Int)) / 256).toNat = y := by omega
  refine List.ext_getElem (by simp [outputPixels, hwidth]) fun x hx hx' => ?_
  have hmin : min x (c.width - 1) = x := by omega
  simp only [outputPixels, sourcePosition_unity, outputPixel_unity, hy, List.getElem_map, List.getElem_range, pixelAt, hmin]
  exact List.getD_eq_getElem _ _ hx'

/-! ### The plan of an output row -/

/-- The queue holds the plan, and no other of its band. -/
def HoldsAlone (queue : List Plan) (p : Plan) : Prop := p ∈ queue ∧ ∀ q ∈ queue, q.band = p.band → q = p

/-- An output row is made by the one plan of its band (R63). -/
theorem HoldsAlone.rowPlan_eq {queue : List Plan} {p : Plan} (h : HoldsAlone queue p) {c : StreamConfig} {y : Nat}
    (hy : p.band = y / c.hb) : rowPlan c queue y = (p.sEff, p.knots) := by
  obtain ⟨hmem, halone⟩ := h
  unfold rowPlan
  cases hfind : queue.find? fun q => q.band == y / c.hb with
  | none => exact absurd (List.find?_eq_none.mp hfind p hmem) (by simp [hy])
  | some q =>
    have hband : q.band = y / c.hb := by simpa using List.find?_some hfind
    rw [halone q (List.mem_of_find?_eq_some hfind) (hband.trans hy.symm)]

/-- A plan of another band may enter the queue (R63). -/
theorem HoldsAlone.concat {queue : List Plan} {p : Plan} (h : HoldsAlone queue p) {q : Plan} (hq : q.band ≠ p.band) :
    HoldsAlone (queue ++ [q]) p := by
  obtain ⟨hmem, halone⟩ := h
  refine ⟨List.mem_append_left _ hmem, fun k hk hband => ?_⟩
  rcases List.mem_append.mp hk with hk | hk
  · exact halone k hk hband
  · exact absurd (List.mem_singleton.mp hk ▸ hband) hq

/-- A plan stays in the queue while a row is emitted that is not the last of its band (R64). -/
theorem HoldsAlone.queueAfterRow {queue : List Plan} {p : Plan} (h : HoldsAlone queue p) {c : StreamConfig} {y : Nat}
    (hy : c.lastRow p.band ≠ y) : HoldsAlone (queueAfterRow c queue y) p := by
  obtain ⟨hmem, halone⟩ := h
  exact ⟨List.mem_filter.mpr ⟨hmem, by simpa using hy⟩, fun q hq => halone q (List.mem_filter.mp hq).1⟩

/-- The last row of a band is not before any row of it (R54). -/
theorem le_lastRow {c : StreamConfig} {b y : Nat} (hhb : 0 < c.hb) (hy : b = y / c.hb) (hheight : y < c.height) :
    y ≤ c.lastRow b := by
  have hband : y < (b + 1) * c.hb := (Nat.div_lt_iff_lt_mul hhb).mp (by omega)
  rw [StreamConfig.lastRow]
  omega

/-- The queue holds each of its plans alone (R63). -/
theorem State.QueueInv.holdsAlone {s : State} (h : s.QueueInv) {c : StreamConfig} {f : Frame}
    (hc : s.pixel.config = some c) (hf : s.pixel.frame = some f) {p : Plan} (hp : p ∈ s.planner.queue) :
    HoldsAlone s.planner.queue p := by
  have hnodup : (s.planner.queue.map Plan.band).Nodup := by
    rw [h.2 c hc f hf]
    exact List.nodup_range.filter _
  exact ⟨hp, fun q hq hband => List.inj_on_of_nodup_map hnodup hq hp hband⟩

/-! ### The rows held -/

/-- A test that keeps every row of an index keeps the row found there. -/
theorem heldRow_filter {store : List (Nat × Row)} {keep : Nat × Row → Bool} {y : Nat}
    (h : ∀ e : Nat × Row, e.1 = y → keep e = true) : heldRow (store.filter keep) y = heldRow store y := by
  have hsame : (fun e : Nat × Row => decide (keep e = true ∧ (e.1 == y) = true)) = fun e => e.1 == y := by
    funext e
    by_cases he : e.1 = y
    · simp [he, h e he]
    · simp [he]
  rw [heldRow, heldRow, List.find?_filter, hsame]

/-- A release leaves the rows from its bound on (R111). -/
theorem heldRow_releaseRows {store : List (Nat × Row)} {bound y : Nat} (h : bound ≤ y) :
    heldRow (releaseRows bound store) y = heldRow store y :=
  heldRow_filter fun _ he => decide_eq_true (he ▸ h)

/-- The entry of a row leaves the rows of another place in the store (R111). -/
theorem heldRow_storeRow {store : List (Nat × Row)} {depth r y : Nat} (h : y % depth ≠ r % depth) (row : Row) :
    heldRow (storeRow depth store r row) y = heldRow store y := by
  have hne : r ≠ y := fun he => h (he ▸ rfl)
  have hkept : heldRow (store.filter fun e => e.1 % depth ≠ r % depth) y = heldRow store y :=
    heldRow_filter fun e he => decide_eq_true (he ▸ h)
  rw [← hkept, heldRow, heldRow, storeRow, List.find?_append]
  simp [hne]

/-- Two indices less than the depth apart have different places in the store (R111). -/
theorem mod_ne_of_lt {depth y r : Nat} (hlt : y < r) (hdepth : r < y + depth) : y % depth ≠ r % depth := by
  intro heq
  have hdvd : depth ∣ r - y := (Nat.modEq_iff_dvd' hlt.le).mp heq
  exact absurd (Nat.le_of_dvd (by omega) hdvd) (by omega)

/-- Every row held is as wide as the stream (R109). -/
theorem FrameOk.heldRow_length {c : StreamConfig} {f : Frame} {store : List (Nat × Row)} (h : FrameOk c f store) {y : Nat}
    (hlo : f.report.rowsReceived - c.depth ≤ y) (hhi : y < f.report.rowsReceived) : (heldRow store y).length = c.width := by
  obtain ⟨-, -, -, -, -, -, -, -, -, hheld, hwidth⟩ := h
  have hindex : y ∈ store.map Prod.fst := by
    rw [hheld, heldIndices, List.mem_range'_1]
    omega
  obtain ⟨⟨_, row⟩, hrow, rfl⟩ := List.mem_map.mp hindex
  exact hwidth _ (heldRow_mem ⟨row, hrow⟩)

/-! ### A band at strength 0 -/

/-- A frame in progress, and in the plan queue a band of it whose effective strengths are both 0. -/
structure State.AtUnity (s : State) (c : StreamConfig) (f : Frame) (p : Plan) : Prop where
  frame    : s.pixel.frame = some f
  accepted : ConfigOk c
  frameOk  : FrameOk c f s.pixel.lineStore
  alone    : HoldsAlone s.planner.queue p
  scale    : p.sEff = 65536
  knots    : p.knots = neutralKnots

/-- A row made by a plan at unity is the held row of its index (R122). -/
theorem rowPixels_unity {t : State} {c : StreamConfig} {p : Plan} {y : Nat} (halone : HoldsAlone t.planner.queue p)
    (hscale : p.sEff = 65536) (hknots : p.knots = neutralKnots) (hy : p.band = y / c.hb)
    (hwidth : (heldRow t.pixel.lineStore y).length = c.width) :
    (rowPixels t c y).map Prod.fst = heldRow t.pixel.lineStore y := by
  rw [rowPixels, halone.rowPlan_eq hy, hscale, hknots, outputPixels_unity hwidth]

/-- The row that an arriving row emits is at least two behind it (R104). -/
theorem ConfigOk.two_le_lag {c : StreamConfig} (h : ConfigOk c) : 2 ≤ c.lag := by
  obtain ⟨-, -, -, -, -, -, -, -, -, -, -, -, -, -, hlag, -⟩ := h
  rw [hlag]
  exact Nat.le_add_left 2 _

section AtUnity

variable {s : State} {c : StreamConfig} {f : Frame} {p : Plan}

/-- The invariants and the strengths of the band give what the identity needs of it (R82, R92). -/
theorem atUnity_of_inv (hpixel : s.PixelInv) (hqueue : s.QueueInv) (hplan : s.PlanInv) (hc : s.pixel.config = some c)
    (hf : s.pixel.frame = some f) (hp : p ∈ s.planner.queue) (hkb : p.kb = 0) (hkv : p.kv = 0) : s.AtUnity c f p := by
  have hconsistent := (pixelInv_iff.mp hpixel).pixel
  obtain ⟨-, -, -, -, -, -, hscale, hknots⟩ := hplan.1 c hc p hp
  exact ⟨hf, hconsistent.accepted c hc, hconsistent.frameOk c hc f hf, hqueue.holdsAlone hc hf hp, hscale hkb, hknots hkv⟩

variable (h : s.AtUnity c f p)

include h

/-- A row that arrived and is not yet emitted is held, as wide as the stream (R109, R111). -/
theorem State.AtUnity.heldRow_length {y : Nat} (hlo : f.report.rowsEmitted ≤ y) (hhi : y < f.report.rowsReceived) :
    (heldRow s.pixel.lineStore y).length = c.width := by
  have hdepth := h.accepted.depth_eq
  obtain ⟨-, -, -, -, hemitted, -⟩ := h.frameOk
  exact FrameOk.heldRow_length h.frameOk (by omega) hhi

/-! ### The arrival of a row -/

/-- The plan that a new row's band brings is of another band than the row emitted (R54, R56). -/
theorem State.AtUnity.rowStored_alone (row : Row) (hlag : c.lag ≤ f.report.rowsReceived)
    (hband : p.band = (f.report.rowsReceived - c.lag) / c.hb) :
    HoldsAlone (s.rowStored c f row).planner.queue p := by
  have htwo := h.accepted.two_le_lag
  unfold State.rowStored
  dsimp only
  split
  · rename_i hstart
    obtain ⟨q, hq, -, hqueue⟩ := exists_planBand
      ((s.setPixel (s.pixel.mapReport fun x => { x with rowsReceived := f.report.rowsReceived + 1 })).storeRow c
        f.report.rowsReceived (fitRow c.width row)) c f.header (f.report.rowsReceived / c.hb)
    have hlater : (f.report.rowsReceived - c.lag) / c.hb < f.report.rowsReceived / c.hb := by
      rw [Nat.div_lt_iff_lt_mul h.accepted.hb_pos, Nat.div_mul_cancel (Nat.dvd_of_mod_eq_zero hstart)]
      omega
    rw [hqueue]
    exact h.alone.concat (by omega)
  · exact h.alone

/-- At the arrival of a row the row that is D behind it leaves as it came (R109, R122). -/
theorem State.AtUnity.acceptRow_getLast (row : Row) (hlag : c.lag ≤ f.report.rowsReceived)
    (hband : p.band = (f.report.rowsReceived - c.lag) / c.hb) :
    (s.acceptRow c f row).outputs.video.getLast? =
      some (.row (heldRow s.pixel.lineStore (f.report.rowsReceived - c.lag))) := by
  have htwo := h.accepted.two_le_lag
  have hdepth := h.accepted.depth_eq
  have hemitted : f.report.rowsEmitted = f.report.rowsReceived - c.lag := by
    obtain ⟨-, -, -, -, hemitted, -⟩ := h.frameOk
    exact hemitted
  have hheld : heldRow (s.rowStored c f row).pixel.lineStore (f.report.rowsReceived - c.lag) =
      heldRow s.pixel.lineStore (f.report.rowsReceived - c.lag) := by
    rw [rowStored_lineStore, heldRow_storeRow (mod_ne_of_lt (by omega) (by omega))]
  have hwidth := h.heldRow_length hemitted.le (by omega)
  have hrow := rowPixels_unity (h.rowStored_alone row hlag hband) h.scale h.knots hband (hheld ▸ hwidth)
  obtain ⟨g, hg, -⟩ := rowStored_advanced (c := c) row h.frame
  have hvideo : (s.acceptRow c f row).outputs =
      ((s.rowStored c f row).emitRow c (f.report.rowsReceived - c.lag)).outputs := by
    rw [acceptRow_eq, State.afterStore, if_pos hlag]
    rfl
  rw [hvideo, emitRow_eq c _ hg, List.getLast?_concat, hrow, hheld]

end AtUnity

/-! ### The close of a frame -/

/-- The output header of a frame where it has not left (R121). -/
def Frame.headerDue (g : Frame) : List VideoPacket := if g.headerSent then [] else [.header g.header]

/-- A state on the way to the close of the frame that `s` has in progress, when the rows below `n` have been emitted: the rows
that arrived and their plans are as they were until they are emitted, and have left as they came. -/
structure State.Closing (s : State) (c : StreamConfig) (f : Frame) (p : Plan) (n : Nat) (t : State) (g : Frame) : Prop where
  frame   : t.pixel.frame = some g
  header  : g.header = f.header
  sent    : g.headerSent = true ↔ 0 < n
  emitted : g.report.rowsEmitted = n
  held    : ∀ y, n ≤ y → y < f.report.rowsReceived → heldRow t.pixel.lineStore y = heldRow s.pixel.lineStore y
  alone   : ∀ y, n ≤ y → y < f.report.rowsReceived → p.band = y / c.hb → HoldsAlone t.planner.queue p
  video   : ∃ rows : List Row,
    t.outputs.video ++ g.headerDue = s.outputs.video ++ f.headerDue ++ rows.map .row ∧
    f.report.rowsEmitted + rows.length = n ∧
    ∀ y, f.report.rowsEmitted ≤ y → y < n → y < f.report.rowsReceived → p.band = y / c.hb →
      rows[y - f.report.rowsEmitted]? = some (heldRow s.pixel.lineStore y)

/-- What one operation does at each of a run of numbers, all of them do one after another. -/
theorem foldl_range' {P : Nat → State → Prop} {op : State → Nat → State} (a : Nat) :
    ∀ (m : Nat) {u : State}, P a u → (∀ i u, a ≤ i → i < a + m → P i u → P (i + 1) (op u i)) →
      P (a + m) ((List.range' a m).foldl op u)
  | 0, _, h0, _ => h0
  | m + 1, _, h0, hstep => by
    rw [List.range'_1_concat, List.foldl_concat]
    exact hstep (a + m) _ (by omega) (by omega)
      (foldl_range' a m h0 fun i u hlo hhi => hstep i u hlo (by omega))

/-! ### What ends a close -/

@[simp] theorem endFrame_outputs (s : State) : s.endFrame.outputs = s.outputs := by
  unfold State.endFrame
  dsimp only
  split <;> rfl

@[simp] theorem handOverReport_outputs (s : State) : s.handOverReport.outputs = s.outputs := by
  unfold State.handOverReport
  split <;> rfl

/-- The trailer carries the frame report as it stands (R174). -/
theorem emitTrailer_video {s : State} {f : Frame} (h : s.pixel.frame = some f) :
    s.emitTrailer.outputs.video = s.outputs.video ++ [.trailer f.report] := by
  rw [State.emitTrailer, h]
  rfl

section Closing

variable {s t : State} {c : StreamConfig} {f g : Frame} {p : Plan} {n : Nat}

/-- Before a row is emitted everything is as it was. -/
theorem State.AtUnity.closing (h : s.AtUnity c f p) : s.Closing c f p f.report.rowsEmitted s f := by
  obtain ⟨-, -, -, -, -, -, hsent, -⟩ := h.frameOk
  exact
    { frame := h.frame
      header := rfl
      sent := hsent
      emitted := rfl
      held := fun _ _ _ => rfl
      alone := fun _ _ _ _ => h.alone
      video := ⟨[], by simp, rfl, fun y hlo hhi => absurd hhi (Nat.not_lt.mpr hlo)⟩ }

/-- What leaves the frame's header, its count of rows, the store, the queue and the port alone leaves the close where it is. -/
theorem State.Closing.of_same (h : s.Closing c f p n t g) {u : State} {k : Frame} (hk : u.pixel.frame = some k)
    (hheader : k.header = g.header) (hsent : k.headerSent = g.headerSent)
    (hemitted : k.report.rowsEmitted = g.report.rowsEmitted) (hstore : u.pixel.lineStore = t.pixel.lineStore)
    (hqueue : u.planner.queue = t.planner.queue) (hvideo : u.outputs.video = t.outputs.video) :
    s.Closing c f p n u k where
  frame := hk
  header := hheader.trans h.header
  sent := hsent ▸ h.sent
  emitted := hemitted.trans h.emitted
  held := hstore ▸ h.held
  alone := hqueue ▸ h.alone
  video := by
    have hdue : k.headerDue = g.headerDue := by rw [Frame.headerDue, Frame.headerDue, hsent, hheader]
    rw [hvideo, hdue]
    exact h.video

/-- The planning of a band that starts after the rows that arrived leaves the close where it is (R57, R114). -/
theorem State.Closing.planBand (h : s.Closing c f p n t g) (hhb : 0 < c.hb) {b : Nat}
    (hb : f.report.rowsReceived ≤ b * c.hb) : ∃ k, s.Closing c f p n (t.planBand c f.header b) k := by
  obtain ⟨q, hq, hpixel, hqueue⟩ := exists_planBand t c f.header b
  have hframe : (t.planBand c f.header b).pixel.frame = some { g with report := g.report.addPlan q } := by
    rw [hpixel, PixelPath.mapReport, h.frame]
    rfl
  refine ⟨_, hframe, h.header, h.sent, h.emitted, ?_, fun y hlo hhi hy => ?_, ?_⟩
  · rw [planBand_lineStore]
    exact h.held
  · have hlater : y / c.hb < b := (Nat.div_lt_iff_lt_mul hhb).mpr (by omega)
    rw [hqueue]
    exact (h.alone y hlo hhi hy).concat (by omega)
  · rw [planBand_outputs]
    exact h.video

/-- The entry of a completion row less than D after the rows still to be emitted leaves the close where it is (R111, R114). -/
theorem State.Closing.storeRow (h : s.Closing c f p n t g) {r : Nat} (hr : f.report.rowsReceived ≤ r)
    (hdepth : r < n + c.depth) (row : Row) : s.Closing c f p n (t.storeRow c r row) g :=
  { h with
    held := fun y hlo hhi => (heldRow_storeRow (mod_ne_of_lt (by omega) (by omega)) row).trans (h.held y hlo hhi) }

/-- The release of rows already emitted leaves the close where it is (R111). -/
theorem State.Closing.releaseBelow (h : s.Closing c f p n t g) {bound : Nat} (hbound : bound ≤ n) :
    s.Closing c f p n (t.releaseBelow bound) g :=
  { h with held := fun y hlo hhi => (heldRow_releaseRows (by omega)).trans (h.held y hlo hhi) }

variable (hs : s.AtUnity c f p)

include hs

/-- The emission of the next row: where it arrived and its band is at unity it leaves as it came (R113, R122). -/
theorem State.Closing.emitRow (h : s.Closing c f p n t g) (hheight : f.report.rowsReceived ≤ c.height) :
    ∃ k, s.Closing c f p (n + 1) (t.emitRow c n) k := by
  obtain ⟨rows, hvideo, hlength, hrows⟩ := h.video
  have hout (hhi : n < f.report.rowsReceived) (hy : p.band = n / c.hb) :
      (rowPixels t c n).map Prod.fst = heldRow s.pixel.lineStore n := by
    have hheld := h.held n le_rfl hhi
    rw [rowPixels_unity (h.alone n le_rfl hhi hy) hs.scale hs.knots hy, hheld]
    exact hheld ▸ hs.heldRow_length (by omega) hhi
  rw [emitRow_eq c n h.frame]
  refine ⟨_, rfl, h.header, by simp, ?_, fun y hlo => h.held y (by omega), fun y hlo hhi hy => ?_,
    rows ++ [(rowPixels t c n).map Prod.fst], ?_, ?_, fun y hlo hhi harrived hy => ?_⟩
  · exact congrArg (· + 1) h.emitted
  · have hlast := le_lastRow hs.accepted.hb_pos hy (by omega)
    exact (h.alone y (by omega) hhi hy).queueAfterRow (by omega)
  · have hleft := congrArg (· ++ [VideoPacket.row ((rowPixels t c n).map Prod.fst)]) hvideo
    simpa [Frame.headerDue] using hleft
  · simpa using by omega
  · rcases Nat.lt_or_eq_of_le (Nat.le_of_lt_succ hhi) with hlt | rfl
    · rw [List.getElem?_append_left (by omega)]
      exact hrows y hlo hlt harrived hy
    · rw [List.getElem?_append_right (by omega), hout harrived hy]
      simp [← hlength]

/-- A completion row stores itself and emits the row D behind it (R114). -/
theorem State.Closing.completionRow {r : Nat} (h : s.Closing c f p (r - c.lag) t g)
    (hr : f.report.rowsReceived ≤ r) (hheight : f.report.rowsReceived ≤ c.height) (row : Row) :
    ∃ k, s.Closing c f p (r + 1 - c.lag) (State.completionRow c row t r) k := by
  have hdepth := hs.accepted.depth_eq
  have hstored := h.storeRow hr (by omega) row
  unfold State.completionRow State.afterStore
  split
  · obtain ⟨k, hk⟩ := hstored.emitRow hs hheight
    rw [show r + 1 - c.lag = r - c.lag + 1 by omega]
    exact ⟨k, hk.releaseBelow (by omega)⟩
  · rw [show r + 1 - c.lag = r - c.lag by omega]
    exact ⟨g, hstored.releaseBelow (by omega)⟩

/-- The planning of the bands not yet planned leaves the close where it is (R57, R114). -/
theorem State.Closing.planUnplanned (h : s.Closing c f p n t g) :
    ∃ k, s.Closing c f p n
      ((c.unplannedBands f.report.rowsReceived).foldl (fun u b => u.planBand c f.header b) t) k :=
  List.foldlRecOn (motive := fun u : State => ∃ k, s.Closing c f p n u k) _ _ ⟨g, h⟩
    fun _ ⟨_, hk⟩ _ hb => hk.planBand hs.accepted.hb_pos (of_decide_eq_true (List.mem_filter.mp hb).2)

/-- The completion rows emit all but the last D rows (R114). -/
theorem State.Closing.completeRows (h : s.Closing c f p f.report.rowsEmitted t g)
    (hshort : f.report.rowsReceived < c.height) (row : Row) :
    ∃ k, s.Closing c f p (c.height - c.lag)
      ((List.range' f.report.rowsReceived (c.height - f.report.rowsReceived)).foldl (State.completionRow c row) t) k := by
  obtain ⟨-, -, -, -, hemitted, -⟩ := hs.frameOk
  have hcompleted := foldl_range' (P := fun r u => ∃ k, s.Closing c f p (r - c.lag) u k) (op := State.completionRow c row)
    f.report.rowsReceived (c.height - f.report.rowsReceived) ⟨g, hemitted ▸ h⟩
    fun r u hlo _ ⟨k, hk⟩ => hk.completionRow hs hlo hshort.le row
  rwa [Nat.add_sub_cancel' hshort.le] at hcompleted

/-- A short close emits all but the last D rows (R114). -/
theorem State.AtUnity.shortClose (hshort : f.report.rowsReceived < c.height) :
    ∃ k, s.Closing c f p (c.height - c.lag) (s.shortClose c f) k := by
  have hmarked : s.Closing c f p f.report.rowsEmitted
      ((s.reportFault .inputShort (some f.report.frameNumber) (some f.report.rowsReceived)).setPixel
        (s.pixel.mapReport fun x => { x with truncated := true })) { f with report := { f.report with truncated := true } } := by
    refine hs.closing.of_same (k := { f with report := { f.report with truncated := true } }) ?_ rfl rfl rfl rfl ?_ ?_
    · simp [PixelPath.mapReport, hs.frame]
    · simp
    · simp
  obtain ⟨k, hplanned⟩ := hmarked.planUnplanned hs
  unfold State.shortClose
  dsimp only
  rw [reportFault_pixel]
  exact hplanned.completeRows hs hshort _

/-- The rows not yet emitted leave at the close, each with the release after it (R113). -/
theorem State.Closing.emitRemaining (h : s.Closing c f p n t g) (hn : n ≤ c.height)
    (hheight : f.report.rowsReceived ≤ c.height) : ∃ k, s.Closing c f p c.height (t.emitRemaining c) k := by
  have hemitted : t.pixel.rowsEmitted = n := by
    rw [PixelPath.rowsEmitted, h.frame]
    exact h.emitted
  unfold State.emitRemaining
  rw [hemitted]
  have hrest := foldl_range' (P := fun y u => ∃ k, s.Closing c f p y u k) (op := State.closingRow c) n (c.height - n) ⟨g, h⟩
    fun y u _ _ ⟨k, hk⟩ =>
      let ⟨k', hk'⟩ := hk.emitRow hs hheight
      ⟨k', hk'.releaseBelow (by omega)⟩
  rwa [Nat.add_sub_cancel' hn] at hrest

/-- At the close every row of the frame has been emitted (R113, R114). -/
theorem State.AtUnity.emitted : ∃ k, s.Closing c f p c.height
    ((if f.report.rowsReceived < c.height then s.shortClose c f else s).emitRemaining c) k := by
  obtain ⟨-, -, -, hheight, hemitted, -⟩ := hs.frameOk
  split
  · obtain ⟨k, hk⟩ := hs.shortClose ‹_›
    exact hk.emitRemaining hs (Nat.sub_le _ _) hheight
  · exact hs.closing.emitRemaining hs (by omega) hheight

/-- The close puts out the header if it is due, the rows not yet emitted and the trailer; every row of the band that arrived
leaves as it came (R113, R121, R122). -/
theorem State.AtUnity.closeFrame_video (hc : s.pixel.config = some c) :
    ∃ (rows : List Row) (report : FrameReport),
      s.closeFrame.outputs.video = s.outputs.video ++ f.headerDue ++ rows.map .row ++ [.trailer report] ∧
      ∀ y, f.report.rowsEmitted ≤ y → y < f.report.rowsReceived → p.band = y / c.hb →
        rows[y - f.report.rowsEmitted]? = some (heldRow s.pixel.lineStore y) := by
  obtain ⟨k, hk⟩ := hs.emitted
  obtain ⟨rows, hvideo, -, hrows⟩ := hk.video
  obtain ⟨-, -, -, hheight, -⟩ := hs.frameOk
  have hpos : 0 < c.height := by
    obtain ⟨-, -, hpos, -⟩ := hs.accepted
    omega
  have hdue : k.headerDue = [] := if_pos (hk.sent.mpr hpos)
  refine ⟨rows, k.report, ?_, fun y hlo hhi => hrows y hlo (by omega) hhi⟩
  rw [hdue, List.append_nil] at hvideo
  rw [closeFrame_eq hc hs.frame, endFrame_outputs, handOverReport_outputs, emitTrailer_video hk.frame, hvideo]

end Closing

/-! ### The statement -/

/-- A row that a frame in progress accepts (R109). -/
theorem rowArrives_eq_acceptRow {s : State} {c : StreamConfig} {f : Frame} (hs : s.pixel.Consistent)
    (hc : s.pixel.config = some c) (hf : s.pixel.frame = some f) (hreceived : f.report.rowsReceived < c.height) (row : Row) :
    s.rowArrives row = s.acceptRow c f row := by
  have hstream : s.pixel.stream = .inFrame ∨ s.pixel.stream = .stopping := hs.frame_iff.mp (by rw [hf]; rfl)
  unfold State.rowArrives
  rcases hstream with hstream | hstream <;> simp only [hstream, hc, hf, if_pos hreceived]

/-- Settles O51: at the arrival of a row by the one row that it emits, at a close by the rows that it emits in turn. -/
theorem zeroStrengthIsTheIdentity : Obligations.ZeroStrengthIsTheIdentity := by
  intro s c f p hpixel hqueue hplan hrun hc hf hp hkb hkv
  have hs := atUnity_of_inv hpixel hqueue hplan hc hf hp hkb hkv
  refine ⟨fun row hlag hreceived hband => ⟨s.acceptRow c f row, ?_, hs.acceptRow_getLast row hlag hband⟩,
    hs.closeFrame_video hc⟩
  rw [← rowArrives_eq_acceptRow (pixelInv_iff.mp hpixel).pixel hc hf hreceived row]
  exact congrArg Host.Outcome.next (if_pos hrun)

end Sys2Proof.Machine

/-! PROOFS. The settings stage (chapter 8). First the moves that a settings stage can make, each of which keeps it consistent;
then what the operations of the pixel path, the requests and the resets do to it; then all that a command can do to it, and the
two statements. -/

namespace Sys2Proof.Machine

/-! ### The moves of a settings stage -/

/-- One thing that can happen to a settings stage: a good write (R127, R128), the raising of the apply-pending state (R130), an
apply that takes effect (R131), a capture (R67), a cancel (R133), or the return to reset values (R135). -/
inductive Settings.Moves (x : Settings) : Settings → Prop where
  | written {v : Setting} : pairingGood x.staged v = true → Moves x (x.write v)
  | raised (pending : ApplyPending) : Moves x { x with apply := pending }
  | applied : Moves x x.applied
  | captured (m : Nat) : Moves x (x.capture m)
  | cancelled : Moves x x.cancelled
  | returned : Moves x Settings.initial

/-- What can become of a settings stage, by any number of moves. -/
abbrev Settings.Reaches : Settings → Settings → Prop := Relation.ReflTransGen Settings.Moves

theorem Settings.Reaches.of_eq {x y : Settings} (h : y = x) : x.Reaches y := h ▸ .refl

/-- The stage is consistent: a clear changed flag means equal copies, and the limits are paired (R128, R136). -/
abbrev Settings.Consistent (x : Settings) : Prop := CopiesAgree x ∧ LimitsPaired x

/-- Two equal copies, with paired limits, make a consistent stage whatever its flags. -/
theorem consistent_of_copies_eq {p : Params} (h : p.coastLimit ≤ p.lostLimit) (changed : Changed) (pending : ApplyPending) :
    Settings.Consistent ⟨p, p, changed, pending⟩ :=
  ⟨⟨fun _ => rfl, fun _ => rfl, fun _ => rfl, fun _ => rfl, fun _ => rfl, fun _ => rfl, fun _ => rfl, fun _ => rfl,
    fun _ => rfl, fun _ => rfl⟩, h, h⟩

/-- A write sets the changed flag of the one parameter whose copies it may part (R127). -/
theorem CopiesAgree.write {x : Settings} (h : CopiesAgree x) (v : Setting) : CopiesAgree (x.write v) := by
  obtain ⟨h0, h1, h2, h3, h4, h5, h6, h7, h8, h9⟩ := h
  cases v with
  | profile _ => exact ⟨nofun, h1, h2, h3, h4, h5, h6, h7, h8, h9⟩
  | refMode _ => exact ⟨h0, nofun, h2, h3, h4, h5, h6, h7, h8, h9⟩
  | refMag _ => exact ⟨h0, h1, nofun, h3, h4, h5, h6, h7, h8, h9⟩
  | focusOrder _ => exact ⟨h0, h1, h2, nofun, h4, h5, h6, h7, h8, h9⟩
  | zoomOrder _ => exact ⟨h0, h1, h2, h3, nofun, h5, h6, h7, h8, h9⟩
  | irisOrder _ => exact ⟨h0, h1, h2, h3, h4, nofun, h6, h7, h8, h9⟩
  | coastLimit _ => exact ⟨h0, h1, h2, h3, h4, h5, nofun, h7, h8, h9⟩
  | lostLimit _ => exact ⟨h0, h1, h2, h3, h4, h5, h6, nofun, h8, h9⟩
  | lossAction _ => exact ⟨h0, h1, h2, h3, h4, h5, h6, h7, nofun, h9⟩
  | fadeFrames _ => exact ⟨h0, h1, h2, h3, h4, h5, h6, h7, h8, nofun⟩

/-- A write that passes the pairing check leaves the limits paired (R128). -/
theorem LimitsPaired.write {x : Settings} (h : LimitsPaired x) {v : Setting} (hv : pairingGood x.staged v = true) :
    LimitsPaired (x.write v) := by
  obtain ⟨hstaged, hactive⟩ := h
  cases v with
  | coastLimit _ => exact ⟨of_decide_eq_true hv, hactive⟩
  | lostLimit _ => exact ⟨of_decide_eq_true hv, hactive⟩
  | _ => exact ⟨hstaged, hactive⟩

/-- A capture writes REF_MAG into both copies, or into the active one alone while the changed flag is set (R67). -/
theorem Settings.Consistent.capture {x : Settings} (h : x.Consistent) (m : Nat) : (x.capture m).Consistent := by
  obtain ⟨⟨h0, h1, h2, h3, h4, h5, h6, h7, h8, h9⟩, hstaged, hactive⟩ := h
  unfold Settings.capture
  cases hflag : x.changed.refMag with
  | true =>
    have hset (hclear : x.changed.refMag = false) : x.staged.refMag = m := by simp [hflag] at hclear
    exact ⟨⟨h0, h1, hset, h3, h4, h5, h6, h7, h8, h9⟩, hstaged, hactive⟩
  | false => exact ⟨⟨h0, h1, fun _ => rfl, h3, h4, h5, h6, h7, h8, h9⟩, hstaged, hactive⟩

/-- Every move keeps the stage consistent. -/
theorem Settings.Moves.consistent {x y : Settings} (h : x.Moves y) (hx : x.Consistent) : y.Consistent := by
  obtain ⟨hcopies, hlimits⟩ := hx
  cases h with
  | written hv => exact ⟨hcopies.write _, hlimits.write hv⟩
  | raised pending => exact ⟨hcopies, hlimits⟩
  | applied =>
    rw [Settings.applied, merged_eq_staged x hcopies]
    exact consistent_of_copies_eq hlimits.1 _ _
  | captured m => exact Settings.Consistent.capture ⟨hcopies, hlimits⟩ m
  | cancelled => exact consistent_of_copies_eq hlimits.2 _ _
  | returned => exact consistent_of_copies_eq (by decide) _ _

/-- What a consistent stage reaches is consistent (R128, R136). -/
theorem Settings.Reaches.consistent {x y : Settings} (h : x.Reaches y) (hx : x.Consistent) : y.Consistent := by
  induction h with
  | refl => exact hx
  | tail _ hmove ih => exact hmove.consistent ih

/-! ### What leaves the settings stage alone -/

section LeftAlone

variable (s : State)

@[simp] theorem evaluate_settings (t : Nat) : (s.evaluate t).settings = s.settings := rfl

@[simp] theorem enqueue_settings (p : Plan) : (s.enqueue p).settings = s.settings := rfl

@[simp] theorem offerToWatches_settings (p : Plan) : (s.offerToWatches p).settings = s.settings := rfl

@[simp] theorem emit_settings (p : VideoPacket) : (s.emit p).settings = s.settings := rfl

@[simp] theorem releaseBelow_settings (bound : Nat) : (s.releaseBelow bound).settings = s.settings := rfl

@[simp] theorem storeRow_settings (c : StreamConfig) (r : Nat) (row : Row) :
    (s.storeRow c r row).settings = s.settings := rfl

@[simp] theorem reportFault_settings (kind : FaultKind) (frame row : Option Nat) :
    (s.reportFault kind frame row).settings = s.settings := by
  unfold State.reportFault
  split <;> rfl

@[simp] theorem emitHeader_settings : s.emitHeader.settings = s.settings := by
  unfold State.emitHeader
  split
  · split <;> rfl
  · rfl

@[simp] theorem emitTrailer_settings : s.emitTrailer.settings = s.settings := by
  unfold State.emitTrailer
  split <;> rfl

@[simp] theorem handOverReport_settings : s.handOverReport.settings = s.settings := by
  unfold State.handOverReport
  split <;> rfl

@[simp] theorem endFrame_settings : s.endFrame.settings = s.settings := by
  unfold State.endFrame
  dsimp only
  split <;> rfl

@[simp] theorem stopStream_settings : s.stopStream.settings = s.settings := rfl

@[simp] theorem abortOutput_settings : s.abortOutput.settings = s.settings := by
  rw [abortOutput_eq]

@[simp] theorem emitRow_settings (c : StreamConfig) (y : Nat) : (s.emitRow c y).settings = s.settings := by
  simp [State.emitRow]

@[simp] theorem afterStore_settings (c : StreamConfig) (r : Nat) : (s.afterStore c r).settings = s.settings := by
  unfold State.afterStore
  split <;> simp

@[simp] theorem extraRow_settings (c : StreamConfig) (f : Frame) : (s.extraRow c f).settings = s.settings := by
  unfold State.extraRow
  split <;> simp

@[simp] theorem strayRow_settings : s.strayRow.settings = s.settings := by
  unfold State.strayRow
  split <;> simp

/-- The rows emitted at a close leave the settings stage alone (R113). -/
@[simp] theorem emitRemaining_settings (c : StreamConfig) : (s.emitRemaining c).settings = s.settings :=
  List.foldlRecOn (motive := fun t : State => t.settings = s.settings) _ _ rfl
    fun _ ht _ _ => by simpa [State.closingRow] using ht

theorem sendReply_settings : s.sendReply.settings = s.settings := by
  unfold State.sendReply
  split <;> rfl

theorem sendNotice_settings : s.sendNotice.settings = s.settings := by
  have hclear (o : Offer) : (s.clearOffer o).settings = s.settings := by cases o <;> rfl
  unfold State.sendNotice
  split
  · exact hclear _
  · rfl

theorem sendEnd_settings : s.sendEnd.settings = s.settings := by
  unfold State.sendEnd
  split <;> rfl

theorem controlBytes_settings (bytes : List Byte) : (s.controlBytes bytes).settings = s.settings := by
  unfold State.controlBytes
  split <;> rfl

theorem lensBytes_settings (bytes : List Byte) : (s.lensBytes bytes).settings = s.settings := by
  have hevent (t : State) (e : Option Record) : (t.lensEvent e).settings = t.settings := by
    unfold State.lensEvent
    split <;> rfl
  unfold State.lensBytes
  split
  · exact List.foldlRecOn (motive := fun t : State => t.settings = s.settings) _ _ rfl
      fun t ht e _ => (hevent t e).trans ht
  · rfl

/-- The begin of a device-level reset leaves the settings stage until the reset ends (R135, R176). -/
theorem beginReset_settings (run : ResetRun) : (s.beginReset run).settings = s.settings := by
  rw [beginReset_eq]

/-- The end of a device-level reset returns the settings stage to its reset values, at either level (R135). -/
theorem finishReset_settings (run : ResetRun) : (s.finishReset run).settings = Settings.initial := by
  unfold State.finishReset
  dsimp only
  split <;> rfl

end LeftAlone

/-! ### The planning of a band -/

/-- Steps 3 to 6 of a band plan may take a capture (R67). -/
theorem makePlan_settings (s : State) (d : PlanId) (sMax : Nat) :
    s.settings.Reaches (s.makePlan d sMax).2.settings := by
  unfold State.makePlan
  split
  · split
    · rw [takeCapture_eq]
      split
      · exact .single (.captured _)
      · exact .refl
    · exact .refl
  · exact .refl

/-- A pending BAND apply takes effect at the start of a band (R131). -/
theorem bandApply_settings (s : State) : s.settings.Reaches s.bandApply.settings := by
  unfold State.bandApply
  split
  · exact .single .applied
  · exact .refl

/-- The planning of a band may apply the settings and may then take a capture (R58). -/
theorem planBand_settings (s : State) (c : StreamConfig) (h : FrameHeader) (b : Nat) :
    s.settings.Reaches (s.planBand c h b).settings := by
  have happlied := bandApply_settings s
  rw [← evaluate_settings s.bandApply (bandTime c h b)] at happlied
  unfold State.planBand
  dsimp only
  rw [offerToWatches_settings, enqueue_settings]
  exact happlied.trans (makePlan_settings _ _ _)

/-! ### The packets of the pixel input port -/

section Packets

variable (s : State)

/-- What a short close does to the settings stage is the planning of the bands not yet planned (R114). -/
theorem shortClose_settings (c : StreamConfig) (f : Frame) : s.settings.Reaches (s.shortClose c f).settings := by
  unfold State.shortClose
  dsimp only
  refine List.foldlRecOn (motive := fun t : State => s.settings.Reaches t.settings) _ _ ?_
    fun t ht r _ => by simpa [State.completionRow] using ht
  refine List.foldlRecOn (motive := fun t : State => s.settings.Reaches t.settings) _ _ (Settings.Reaches.of_eq (by simp))
    fun t ht b _ => ht.trans (planBand_settings t c f.header b)

/-- The close of a frame (R113, R114). -/
theorem closeFrame_settings : s.settings.Reaches s.closeFrame.settings := by
  unfold State.closeFrame
  split
  · rename_i c f _ _
    simp only [endFrame_settings, handOverReport_settings, emitTrailer_settings, emitRemaining_settings]
    split
    · exact shortClose_settings s c f
    · exact .refl
  · exact .refl

/-- A pending FRAME apply takes effect at the announcement of a header (R108, R131). -/
theorem announce_settings : s.settings.Reaches s.announce.settings := by
  unfold State.announce
  split
  · exact .single .applied
  · exact .refl

/-- The arrival of a header (R108, R113). -/
theorem headerArrives_settings (h : FrameHeader) : s.settings.Reaches (s.headerArrives h).settings := by
  have hclosed : s.settings.Reaches s.closeIfOpen.settings := by
    unfold State.closeIfOpen
    split
    · exact closeFrame_settings s
    · exact closeFrame_settings s
    · exact .refl
  have hjudged (t : State) : t.settings.Reaches (t.judgeHeader h).settings := by
    have hannounced {u : State} (hu : u.settings = t.settings) : t.settings.Reaches u.announce.settings :=
      hu ▸ announce_settings u
    unfold State.judgeHeader State.startFrame
    dsimp only
    split
    · exact hannounced rfl
    · exact .of_eq (reportFault_settings _ _ _ _)
  unfold State.headerArrives
  dsimp only
  split
  · exact hclosed.trans (hjudged _)
  · exact hclosed

/-- The arrival of a row: the first of a band plans it (R109). -/
theorem rowArrives_settings (row : Row) : s.settings.Reaches (s.rowArrives row).settings := by
  have haccept (c : StreamConfig) (f : Frame) : s.settings.Reaches (s.acceptRow c f row).settings := by
    have hplanned {t : State} (ht : t.settings = s.settings) (b : Nat) :
        s.settings.Reaches (t.planBand c f.header b).settings := ht ▸ planBand_settings t c f.header b
    unfold State.acceptRow
    dsimp only
    rw [afterStore_settings]
    split
    · exact hplanned (by simp) _
    · exact .of_eq (by simp)
  unfold State.rowArrives
  split
  · exact .refl
  · exact .of_eq (strayRow_settings s)
  · split
    · split
      · exact haccept _ _
      · exact .of_eq (extraRow_settings s _ _)
    · exact .refl

/-- The arrival of an end (R113). -/
theorem endArrives_settings : s.settings.Reaches s.endArrives.settings := by
  unfold State.endArrives
  split
  · exact .refl
  · exact .refl
  · exact closeFrame_settings s

end Packets

/-! ### The owners of the requests -/

/-- STAGE_WRITE makes at most one write, and that a good one (R127, R128). -/
theorem stageWriteOwner_settings (q : Request) (s : State) : s.settings.Reaches (stageWriteOwner q s).state.settings := by
  unfold stageWriteOwner
  dsimp only
  split
  · exact .refl
  · split
    · exact .refl
    · split
      · rename_i v _
        unfold stageSetting
        cases hpaired : pairingGood s.settings.staged v with
        | false => exact .refl
        | true =>
          cases slotGood s.slots v with
          | false => exact .refl
          | true => exact .single (.written hpaired)
      · exact .refl

/-- STAGE_APPLY takes effect at once in STOPPED, and otherwise raises the apply-pending state (R130). -/
theorem stageApplyOwner_settings (q : Request) (s : State) : s.settings.Reaches (stageApplyOwner q s).state.settings := by
  unfold stageApplyOwner
  split
  · exact .refl
  · dsimp only
    split
    · exact .single .applied
    · exact .single (.raised _)

theorem streamStopOwner_settings (s : State) : (streamStopOwner s).state.settings = s.settings := rfl

theorem sampleOwner_settings (q : Request) (s : State) : (sampleOwner q s).state.settings = s.settings := by
  unfold sampleOwner
  dsimp only
  split
  · rfl
  · split
    · rfl
    · split
      · rfl
      · split <;> rfl

theorem restartOwner_settings (q : Request) (s : State) : (restartOwner q s).state.settings = s.settings := by
  unfold restartOwner
  split
  · simp [State.streamRestart, answer]
  · rfl

/-! ### The taking of a request -/

section Taking

variable {kind : Byte} {q : Request} {owner : State → Answer} {s : State}

/-- What the owner of a request does to the settings stage is what the taking of the request does to it. -/
theorem takeRequest_reaches (h : ∀ t : State, t.settings.Reaches (owner t).state.settings) :
    s.settings.Reaches (takeRequest kind q owner s).settings :=
  takeRequest_keeps (P := fun t => s.settings.Reaches t.settings) (fun _ _ ht => ht) (fun t ht => ht.trans (h t)) .refl

/-- A request whose owner leaves the settings stage alone leaves it alone. -/
theorem takeRequest_settings (h : ∀ t, (owner t).state.settings = t.settings) :
    (takeRequest kind q owner s).settings = s.settings :=
  takeRequest_keeps (P := fun t => t.settings = s.settings) (fun _ _ ht => ht) (fun t ht => (h t).trans ht) rfl

/-- A request whose owner writes one block, and that not the settings stage, leaves the settings stage alone. -/
theorem takeRequest_settings_of_block {α : Type} {set : State → α → State}
    (hset : ∀ t x, (set t x).settings = t.settings) (h : ∀ t, ∃ x, (owner t).state = set t x) :
    (takeRequest kind q owner s).settings = s.settings :=
  takeRequest_settings fun t => let ⟨x, hx⟩ := h t; hx ▸ hset t x

theorem takeUnknown_settings : (takeUnknown kind q s).settings = s.settings := by
  unfold takeUnknown
  split <;> rfl

theorem takeRamp_settings (form : Nat) : (takeRamp form q s).settings = s.settings := by
  unfold takeRamp
  split
  · exact takeRequest_settings_of_block State.setRamps_settings (rampOwner_state q)
  · rfl

theorem takeRestart_settings (level : Nat) (cause : ResetCause) :
    (takeRestart level cause q s).settings = s.settings := by
  unfold takeRestart takeDeviceRestart
  split
  · rfl
  · split
    · split
      · rw [beginReset_settings, removeOldest_settings]
      · rfl
    · exact takeRequest_settings (restartOwner_settings q)

end Taking

/-! ### Every command -/

/-- All that a command can do to the settings stage. -/
theorem exec_settings {i : Instr} {s t : State} (h : exec i s = .next t) : s.settings.Reaches t.settings := by
  cases i with
  | identify q | status q | streamRead q | stageRead q | framingCapture q | watchClear q | watchRead q =>
    cases h; exact .of_eq (takeRequest_settings fun _ => rfl)
  | subscribe q =>
    cases h
    exact .of_eq (takeRequest_settings fun t =>
      let ⟨_, _, h⟩ := subscribeOwner_state q t; (congrArg State.settings h :))
  | restartStream q =>
    cases h
    split
    · exact .of_eq (takeRequest_settings (restartOwner_settings q))
    · exact .refl
  | restartWarm q | restartCold q => cases h; exact .of_eq (takeRestart_settings _ _)
  | profileOpen q =>
    cases h; exact .of_eq (takeRequest_settings_of_block State.setSlots_settings (profileOpenOwner_state q))
  | profileWrite q =>
    cases h; exact .of_eq (takeRequest_settings_of_block State.setSlots_settings (profileWriteOwner_state q))
  | profileClose q =>
    cases h; exact .of_eq (takeRequest_settings_of_block State.setSlots_settings (profileCloseOwner_state q))
  | profileDiscard q =>
    cases h; exact .of_eq (takeRequest_settings_of_block State.setSlots_settings (profileDiscardOwner_state q))
  | profileQuery q =>
    cases h; exact .of_eq (takeRequest_settings fun t => congrArg State.settings (profileQueryOwner_state q t))
  | streamConfigure q =>
    cases h; exact .of_eq (takeRequest_settings_of_block State.setPixel_settings (streamConfigureOwner_state q))
  | streamStart q =>
    cases h; exact .of_eq (takeRequest_settings_of_block State.setPixel_settings streamStartOwner_state)
  | streamStop q => cases h; exact .of_eq (takeRequest_settings streamStopOwner_settings)
  | stageWrite q => cases h; exact takeRequest_reaches (stageWriteOwner_settings q)
  | stageApply q => cases h; exact takeRequest_reaches (stageApplyOwner_settings q)
  | stageCancel q => cases h; exact takeRequest_reaches fun _ => .single .cancelled
  | rampContinue q | rampRestart q | rampNow q | rampHalt q => cases h; exact .of_eq (takeRamp_settings _)
  | watchSet q =>
    cases h; exact .of_eq (takeRequest_settings_of_block State.setWatches_settings (watchSetOwner_state q))
  | faultRead q =>
    cases h; exact .of_eq (takeRequest_settings_of_block State.setFaults_settings (faultReadOwner_state q))
  | sample q => cases h; exact .of_eq (takeRequest_settings (sampleOwner_settings q))
  | unknownKind kind q => cases h; exact .of_eq takeUnknown_settings
  | controlRecordArrival bytes | notReadyRecord bytes => cases h; exact .of_eq (controlBytes_settings s bytes)
  | lensRecordArrival bytes => cases h; exact .of_eq (lensBytes_settings s bytes)
  | frameHeader x | rampComplete x =>
    cases h
    split
    · exact headerArrives_settings s x
    · exact .refl
  | inputRow row =>
    cases h
    split
    · exact rowArrives_settings s row
    · exact .refl
  | frameEnd =>
    cases h
    split
    · exact endArrives_settings s
    · exact .refl
  | sendReply => cases h; exact .of_eq (sendReply_settings s)
  | sendNotice => cases h; exact .of_eq (sendNotice_settings s)
  | sendEnd => cases h; exact .of_eq (sendEnd_settings s)
  | powerOn =>
    cases h
    split
    · exact .refl
    · exact .single .returned
  | powerLoss =>
    cases h
    split
    · exact .single .returned
    · exact .refl
  | resetLineAssert =>
    cases h
    split
    · exact .refl
    · split
      · exact .of_eq (beginReset_settings s ⟨.resetLine, 0⟩)
      · exact .refl
  | resetLineRelease =>
    cases h
    dsimp only
    split
    · split
      · rw [finishReset_settings]; exact .single .returned
      · exact .refl
    · exact .refl
  | resetEnd =>
    cases h
    split
    · rw [finishReset_settings]; exact .single .returned
    · exact .refl

/-- All that a step can do to the settings stage; on an empty queue it idles. -/
theorem step_settings {s t : State} (h : step s = .next t) : s.settings.Reaches t.settings := by
  unfold step at h
  split at h
  · cases h; exact .refl
  · exact (exec_settings h :)

/-! ### The statements -/

/-- Settles O33: a step takes the settings stage by moves, and each move keeps it consistent. -/
theorem settingsInvariantKept : Obligations.SettingsInvariantKept :=
  fun _ _ hs h => (step_settings h).consistent hs

/-- The number of changed flags that the reply to STAGE_CANCEL carries (R133). -/
theorem changedFlags_length (c : Changed) : (c.toList.filter (· = true)).length = c.toList.count true := by
  simp [List.count_eq_length_filter]

/-- Settles O31, by the answer of the settings stage. -/
theorem stageCancelWithdrawsEverything : Obligations.StageCancelWithdrawsEverything := by
  intro q s hbody ht
  have hl : lengthAgrees 0x10 q.body.length = true := by rw [hbody]; rfl
  have howner : stageCancelOwner s.removeOldest =
      answer .ok (leBytes 1 (s.settings.changed.toList.count true) ++ [s.settings.apply.code])
        (s.setSettings s.settings.cancelled).removeOldest := by
    rw [stageCancelOwner, changedFlags_length]
    rfl
  exact congrArg Host.Outcome.next (takeRequest_of_answer ht hl howner)

end Sys2Proof.Machine

/-! PROOFS. The ramp unit (chapter 9) stays within its ranges (R137, R147). First what a command and an announced header make of
one ramp and of the fade factor; then what can become of the unit, each part of which keeps it in range; then what the pixel
path, the requests and the resets do to it, all that a command can do to it, and the statement. -/

namespace Sys2Proof.Machine

/-! ### The ramp commands -/

/-- A ramp command as R138 lets it pass: HALT carries no target and no frames total. -/
def RampCommand.InRange : RampCommand → Prop
  | .buffer _ target total | .now target total => target ≤ 256 ∧ total ≤ 4095
  | .halt => True

/-- Only a command in range is decoded (R138). -/
theorem decodeRamp_inRange {form target total : Nat} {command : RampCommand}
    (h : decodeRamp form target total = some command) : command.InRange := by
  have checked {c : RampCommand} (hc : (if decide (target ≤ 256 ∧ total ≤ 4095) then some c else none) = some command)
      (hrange : target ≤ 256 ∧ total ≤ 4095 → c.InRange) : command.InRange := by
    obtain ⟨hgood, hsome⟩ := Option.ite_none_right_eq_some.mp hc
    exact Option.some.inj hsome ▸ hrange (of_decide_eq_true hgood)
  unfold decodeRamp at h
  split at h
  · exact checked h id
  · exact checked h id
  · exact checked h id
  · cases h; trivial
  · cases h

/-! ### One ramp, and the fade factor -/

/-- A run that begins stands at its start, or at its target at once when its frames total is 0 (R140, R143). -/
theorem rampOk_begun {start target total : Nat} (hstart : start ≤ 256) (htarget : target ≤ 256) (htotal : total ≤ 4095) :
    RampOk ⟨if total = 0 then target else start, target, start, total, 0, decide (0 < total), none⟩ := by
  refine ⟨?_, htarget, hstart, htotal, Nat.zero_le _, of_decide_eq_true, fun hidle => if_pos ?_, nofun⟩
  · dsimp only
    split
    · exact htarget
    · exact hstart
  · exact Nat.eq_zero_of_not_pos (of_decide_eq_false hidle)

/-- An interpolation of the whole way ends at the target. -/
theorem interpolate_den (a b : Nat) {den : Nat} (h : 0 < den) : interpolate a b den den = b := by
  rw [interpolate, roundDiv_mul_self _ h]
  omega

section OneRamp

variable {r : Ramp} (h : RampOk r)

include h

/-- A command in range leaves the ramp in range (R139 to R141). -/
theorem RampOk.obey {command : RampCommand} (hcommand : command.InRange) : RampOk (r.obey command) := by
  obtain ⟨hvalue, htarget, hstart, htotal, hdone, hrunning, hidle, -⟩ := h
  cases command with
  | buffer form target total =>
    exact ⟨hvalue, htarget, hstart, htotal, hdone, hrunning, hidle, fun b hb => Option.some.inj hb ▸ hcommand⟩
  | now target total => exact rampOk_begun hvalue hcommand.1 hcommand.2
  | halt => exact ⟨hvalue, hvalue, hstart, htotal, hdone, nofun, fun _ => rfl, nofun⟩

/-- A running ramp steps toward its target, and the last step reaches it (R142). -/
theorem RampOk.step : RampOk r.step.1 := by
  obtain ⟨hvalue, htarget, hstart, htotal, hdone, hrunning, hidle, hbuffered⟩ := h
  unfold Ramp.step
  split
  · rename_i hruns
    have hleft : r.done < r.total := hrunning hruns
    have hstepped := interpolate_within (lo := 0) ⟨Nat.zero_le _, hstart⟩ ⟨Nat.zero_le _, htarget⟩ (by omega) hleft
    refine ⟨hstepped.2, htarget, hstart, htotal, hleft, of_decide_eq_true, fun hends => ?_, hbuffered⟩
    have hlast : r.done + 1 = r.total := Nat.le_antisymm hleft (Nat.le_of_not_lt (of_decide_eq_false hends))
    dsimp only
    rw [hlast, interpolate_den _ _ (by omega)]
  · exact ⟨hvalue, htarget, hstart, htotal, hdone, hrunning, hidle, hbuffered⟩

/-- The start of a buffered command: CONTINUE begins at the ramp's value, RESTART at 0 (R143). -/
theorem RampOk.startBuffered : RampOk r.startBuffered.1 := by
  unfold Ramp.startBuffered
  split
  · rename_i b _ hb
    obtain ⟨hvalue, -, -, -, -, -, -, hbuffered⟩ := h
    obtain ⟨htarget, htotal⟩ := hbuffered b hb
    refine rampOk_begun ?_ htarget htotal
    split
    · exact hvalue
    · exact Nat.zero_le _
  · exact h

/-- An announced header steps the ramp and then may start its buffered command (R142, R143). -/
theorem RampOk.atHeader : RampOk r.atHeader.1 := h.step.startBuffered

end OneRamp

/-- The fade factor falls no lower than 0 and rises no higher than 256 (R145, R147). -/
theorem fadeAtHeader_le {f : Nat} (h : f ≤ 256) (action : LossAction) (frames : Nat) (loss : Bool) :
    fadeAtHeader action frames loss f ≤ 256 := by
  unfold fadeAtHeader
  dsimp only
  split
  · exact (Nat.sub_le _ _).trans h
  · exact Nat.min_le_left _ _

/-! ### What can become of the ramp unit -/

/-- Both ramps and the fade factor are within their ranges (R137, R147). -/
abbrev RampUnit.Ok (u : RampUnit) : Prop := RampOk u.breathing ∧ RampOk u.shading ∧ u.fade ≤ 256

/-- What one command can make of a ramp unit: nothing; the ramps selected obey a command in range (R138); an announced header
steps the ramps and moves the fade factor (R142 to R145); or a reset returns it to its initial values (R149). -/
inductive RampUnit.Becomes (u : RampUnit) : RampUnit → Prop where
  | unchanged : Becomes u u
  | obeyed (k : RampSelector) {command : RampCommand} : command.InRange → Becomes u (u.select k (·.obey command))
  | announced (action : LossAction) (frames : Nat) (loss : Bool) :
      Becomes u ⟨u.breathing.atHeader.1, u.shading.atHeader.1, fadeAtHeader action frames loss u.fade⟩
  | returned : Becomes u RampUnit.initial

theorem RampUnit.Becomes.of_eq {u v : RampUnit} (h : v = u) : u.Becomes v := h ▸ .unchanged

/-- What a ramp unit within its ranges becomes is within them (R147). -/
theorem RampUnit.Becomes.ok {u v : RampUnit} (h : u.Becomes v) (hu : u.Ok) : v.Ok := by
  obtain ⟨hbreathing, hshading, hfade⟩ := hu
  cases h with
  | unchanged => exact ⟨hbreathing, hshading, hfade⟩
  | obeyed k hcommand =>
    cases k with
    | breathing => exact ⟨hbreathing.obey hcommand, hshading, hfade⟩
    | shading => exact ⟨hbreathing, hshading.obey hcommand, hfade⟩
    | both => exact ⟨hbreathing.obey hcommand, hshading.obey hcommand, hfade⟩
  | announced action frames loss =>
    exact ⟨hbreathing.atHeader, hshading.atHeader, fadeAtHeader_le hfade action frames loss⟩
  | returned => decide

/-! ### The packets of the pixel input port -/

section Packets

variable (s : State)

/-- States of equal plan sides have equal ramp units. -/
theorem ramps_eq_of_planSide_eq {s t : State} (h : t.planSide = s.planSide) : t.ramps = s.ramps :=
  congrArg PlanSide.ramps h

@[simp] theorem releaseBelow_ramps (bound : Nat) : (s.releaseBelow bound).ramps = s.ramps := rfl

@[simp] theorem storeRow_ramps (c : StreamConfig) (r : Nat) (row : Row) : (s.storeRow c r row).ramps = s.ramps := rfl

@[simp] theorem emit_ramps (p : VideoPacket) : (s.emit p).ramps = s.ramps := rfl

@[simp] theorem stopStream_ramps : s.stopStream.ramps = s.ramps := rfl

@[simp] theorem reportFault_ramps (kind : FaultKind) (frame row : Option Nat) :
    (s.reportFault kind frame row).ramps = s.ramps :=
  ramps_eq_of_planSide_eq (reportFault_planSide s kind frame row)

@[simp] theorem emitHeader_ramps : s.emitHeader.ramps = s.ramps := ramps_eq_of_planSide_eq (emitHeader_planSide s)

@[simp] theorem emitTrailer_ramps : s.emitTrailer.ramps = s.ramps := ramps_eq_of_planSide_eq (emitTrailer_planSide s)

@[simp] theorem handOverReport_ramps : s.handOverReport.ramps = s.ramps :=
  ramps_eq_of_planSide_eq (handOverReport_planSide s)

@[simp] theorem endFrame_ramps : s.endFrame.ramps = s.ramps := ramps_eq_of_planSide_eq (endFrame_planSide s)

@[simp] theorem abortOutput_ramps : s.abortOutput.ramps = s.ramps := ramps_eq_of_planSide_eq (abortOutput_planSide s)

@[simp] theorem planBand_ramps (c : StreamConfig) (h : FrameHeader) (b : Nat) : (s.planBand c h b).ramps = s.ramps :=
  (congrArg State.ramps (planBand_leaves s c h b) :)

@[simp] theorem emitRow_ramps (c : StreamConfig) (y : Nat) : (s.emitRow c y).ramps = s.ramps := by
  simp [State.emitRow]

@[simp] theorem afterStore_ramps (c : StreamConfig) (r : Nat) : (s.afterStore c r).ramps = s.ramps := by
  unfold State.afterStore
  split <;> simp

/-- A fold of operations that each leave the ramp unit alone leaves it alone. -/
theorem foldl_ramps {α : Type} {op : State → α → State} (h : ∀ t x, (op t x).ramps = t.ramps) (xs : List α) :
    (xs.foldl op s).ramps = s.ramps :=
  List.foldlRecOn (motive := fun t : State => t.ramps = s.ramps) xs op rfl fun t ht x _ => (h t x).trans ht

@[simp] theorem emitRemaining_ramps (c : StreamConfig) : (s.emitRemaining c).ramps = s.ramps :=
  foldl_ramps s (fun t y => by simp [State.closingRow]) _

@[simp] theorem shortClose_ramps (c : StreamConfig) (f : Frame) : (s.shortClose c f).ramps = s.ramps := by
  unfold State.shortClose
  dsimp only
  rw [foldl_ramps _ (fun t r => by simp [State.completionRow]), foldl_ramps _ (fun t b => planBand_ramps t c f.header b)]
  simp

/-- The close of a frame leaves the ramp unit alone (R113, R114). -/
@[simp] theorem closeFrame_ramps : s.closeFrame.ramps = s.ramps := by
  unfold State.closeFrame
  split
  · dsimp only
    split <;> simp
  · rfl

@[simp] theorem closeIfOpen_ramps : s.closeIfOpen.ramps = s.ramps := by
  unfold State.closeIfOpen
  split <;> simp

/-- The announcement of a header steps the ramp unit once, after any FRAME apply (R132). -/
theorem announce_becomes : s.ramps.Becomes s.announce.ramps := by
  unfold State.announce
  split <;> exact .announced _ _ _

/-- A header in WAITING is announced, or it is a fault and the ramps do not step (R108, R144). -/
theorem judgeHeader_becomes (h : FrameHeader) : s.ramps.Becomes (s.judgeHeader h).ramps := by
  have hannounced {t : State} (ht : t.ramps = s.ramps) : s.ramps.Becomes t.announce.ramps := ht ▸ announce_becomes t
  unfold State.judgeHeader State.startFrame
  dsimp only
  split
  · exact hannounced rfl
  · exact .of_eq (reportFault_ramps _ _ _ _)

/-- The arrival of a header steps the ramp unit at most once (R108, R142). -/
theorem headerArrives_becomes (h : FrameHeader) : s.ramps.Becomes (s.headerArrives h).ramps := by
  unfold State.headerArrives
  dsimp only
  rw [← closeIfOpen_ramps s]
  split
  · exact judgeHeader_becomes _ h
  · exact .unchanged

theorem acceptRow_ramps (c : StreamConfig) (f : Frame) (row : Row) : (s.acceptRow c f row).ramps = s.ramps := by
  unfold State.acceptRow
  dsimp only
  split <;> simp

/-- The arrival of a row leaves the ramp unit alone (R144). -/
theorem rowArrives_ramps (row : Row) : (s.rowArrives row).ramps = s.ramps := by
  unfold State.rowArrives
  split
  · rfl
  · exact ramps_eq_of_planSide_eq (strayRow_planSide s)
  · split
    · rename_i c f _ _
      split
      · exact acceptRow_ramps s c f row
      · exact ramps_eq_of_planSide_eq (extraRow_planSide s c f)
    · rfl

/-- The arrival of an end leaves the ramp unit alone (R144). -/
theorem endArrives_ramps : s.endArrives.ramps = s.ramps := by
  unfold State.endArrives
  split
  · rfl
  · rfl
  · exact closeFrame_ramps s

end Packets

/-! ### Sendings, links and resets -/

section Events

variable (s : State)

theorem sendReply_ramps : s.sendReply.ramps = s.ramps := by
  unfold State.sendReply
  split <;> rfl

theorem sendNotice_ramps : s.sendNotice.ramps = s.ramps := by
  have hclear (o : Offer) : (s.clearOffer o).ramps = s.ramps := by cases o <;> rfl
  unfold State.sendNotice
  split
  · exact hclear _
  · rfl

theorem sendEnd_ramps : s.sendEnd.ramps = s.ramps := by
  unfold State.sendEnd
  split <;> rfl

theorem controlBytes_ramps (bytes : List Byte) : (s.controlBytes bytes).ramps = s.ramps := by
  unfold State.controlBytes
  split <;> rfl

theorem lensBytes_ramps (bytes : List Byte) : (s.lensBytes bytes).ramps = s.ramps := by
  have hevent (t : State) (e : Option Record) : (t.lensEvent e).ramps = t.ramps := by
    unfold State.lensEvent
    split <;> rfl
  unfold State.lensBytes
  split
  · exact foldl_ramps (s.setLens _) hevent _
  · rfl

/-- The begin of a device-level reset leaves the ramp unit until the reset ends (R149, R176). -/
theorem beginReset_ramps (run : ResetRun) : (s.beginReset run).ramps = s.ramps := by
  rw [beginReset_eq]

/-- The end of a device-level reset returns the ramp unit to its initial values, at either level (R149). -/
theorem finishReset_ramps (run : ResetRun) : (s.finishReset run).ramps = RampUnit.initial := by
  unfold State.finishReset
  dsimp only
  split <;> rfl

end Events

/-! ### The taking of a request -/

section Taking

variable {kind : Byte} {q : Request} {owner : State → Answer} {s : State}

/-- What the owner of a request does to the ramp unit is what the taking of the request does to it. -/
theorem takeRequest_becomes (h : ∀ t : State, t.ramps.Becomes (owner t).state.ramps) :
    s.ramps.Becomes (takeRequest kind q owner s).ramps := by
  unfold takeRequest
  split
  · dsimp only
    split
    · exact h s.removeOldest
    · exact .unchanged
  · exact .unchanged

/-- A request whose owner leaves the ramp unit alone leaves it alone. -/
theorem takeRequest_ramps (h : ∀ t, (owner t).state.ramps = t.ramps) : (takeRequest kind q owner s).ramps = s.ramps :=
  takeRequest_keeps (P := fun t => t.ramps = s.ramps) (fun _ _ ht => ht) (fun t ht => (h t).trans ht) rfl

/-- A request whose owner writes one block, and that not the ramp unit, leaves the ramp unit alone. -/
theorem takeRequest_ramps_of_block {α : Type} {set : State → α → State} (hset : ∀ t x, (set t x).ramps = t.ramps)
    (h : ∀ t, ∃ x, (owner t).state = set t x) : (takeRequest kind q owner s).ramps = s.ramps :=
  takeRequest_ramps fun t => let ⟨x, hx⟩ := h t; hx ▸ hset t x

/-- RAMP is refused, or the ramps it selects obey its command (R138). -/
theorem rampOwner_becomes (q : Request) (s : State) : s.ramps.Becomes (rampOwner q s).state.ramps := by
  unfold rampOwner
  split
  · rename_i k command _ hcommand
    exact .obeyed k (decodeRamp_inRange hcommand)
  · exact .unchanged

theorem takeRamp_becomes (form : Nat) : s.ramps.Becomes (takeRamp form q s).ramps := by
  unfold takeRamp
  split
  · exact takeRequest_becomes (rampOwner_becomes q)
  · exact .unchanged

theorem sampleOwner_ramps (q : Request) (s : State) : (sampleOwner q s).state.ramps = s.ramps := by
  unfold sampleOwner
  dsimp only
  split
  · rfl
  · split
    · rfl
    · split
      · rfl
      · split <;> rfl

/-- A STREAM restart leaves the ramp unit alone (R175). -/
theorem restartOwner_ramps (q : Request) (s : State) : (restartOwner q s).state.ramps = s.ramps := by
  unfold restartOwner
  split
  · simp [State.streamRestart, answer]
  · rfl

theorem takeUnknown_ramps : (takeUnknown kind q s).ramps = s.ramps := by
  unfold takeUnknown
  split <;> rfl

theorem takeRestart_ramps (level : Nat) (cause : ResetCause) : (takeRestart level cause q s).ramps = s.ramps := by
  unfold takeRestart takeDeviceRestart
  split
  · rfl
  · split
    · split
      · rw [beginReset_ramps, removeOldest_ramps]
      · rfl
    · exact takeRequest_ramps (restartOwner_ramps q)

end Taking

/-! ### Every command -/

/-- All that a command can do to the ramp unit. -/
theorem exec_ramps {i : Instr} {s t : State} (h : exec i s = .next t) : s.ramps.Becomes t.ramps := by
  cases i with
  | rampContinue q | rampRestart q | rampNow q | rampHalt q => cases h; exact takeRamp_becomes _
  | frameHeader x | rampComplete x =>
    cases h
    split
    · exact headerArrives_becomes s x
    · exact .unchanged
  | identify q | status q | streamStop q | streamRead q | stageCancel q | stageRead q | framingCapture q | watchClear q
  | watchRead q =>
    cases h; exact .of_eq (takeRequest_ramps fun _ => rfl)
  | subscribe q =>
    cases h
    exact .of_eq (takeRequest_ramps fun t => let ⟨_, _, h⟩ := subscribeOwner_state q t; (congrArg State.ramps h :))
  | restartStream q =>
    cases h
    split
    · exact .of_eq (takeRequest_ramps (restartOwner_ramps q))
    · exact .unchanged
  | restartWarm q | restartCold q => cases h; exact .of_eq (takeRestart_ramps _ _)
  | profileOpen q => cases h; exact .of_eq (takeRequest_ramps_of_block State.setSlots_ramps (profileOpenOwner_state q))
  | profileWrite q => cases h; exact .of_eq (takeRequest_ramps_of_block State.setSlots_ramps (profileWriteOwner_state q))
  | profileClose q => cases h; exact .of_eq (takeRequest_ramps_of_block State.setSlots_ramps (profileCloseOwner_state q))
  | profileDiscard q =>
    cases h; exact .of_eq (takeRequest_ramps_of_block State.setSlots_ramps (profileDiscardOwner_state q))
  | profileQuery q =>
    cases h; exact .of_eq (takeRequest_ramps fun t => congrArg State.ramps (profileQueryOwner_state q t))
  | streamConfigure q =>
    cases h; exact .of_eq (takeRequest_ramps_of_block State.setPixel_ramps (streamConfigureOwner_state q))
  | streamStart q => cases h; exact .of_eq (takeRequest_ramps_of_block State.setPixel_ramps streamStartOwner_state)
  | stageWrite q => cases h; exact .of_eq (takeRequest_ramps_of_block State.setSettings_ramps (stageWriteOwner_state q))
  | stageApply q =>
    cases h
    exact .of_eq (takeRequest_ramps fun t => let ⟨_, _, h⟩ := stageApplyOwner_state q t; (congrArg State.ramps h :))
  | watchSet q => cases h; exact .of_eq (takeRequest_ramps_of_block State.setWatches_ramps (watchSetOwner_state q))
  | faultRead q => cases h; exact .of_eq (takeRequest_ramps_of_block State.setFaults_ramps (faultReadOwner_state q))
  | sample q => cases h; exact .of_eq (takeRequest_ramps (sampleOwner_ramps q))
  | unknownKind kind q => cases h; exact .of_eq takeUnknown_ramps
  | controlRecordArrival bytes | notReadyRecord bytes => cases h; exact .of_eq (controlBytes_ramps s bytes)
  | lensRecordArrival bytes => cases h; exact .of_eq (lensBytes_ramps s bytes)
  | inputRow row =>
    cases h
    split
    · exact .of_eq (rowArrives_ramps s row)
    · exact .unchanged
  | frameEnd =>
    cases h
    split
    · exact .of_eq (endArrives_ramps s)
    · exact .unchanged
  | sendReply => cases h; exact .of_eq (sendReply_ramps s)
  | sendNotice => cases h; exact .of_eq (sendNotice_ramps s)
  | sendEnd => cases h; exact .of_eq (sendEnd_ramps s)
  | powerOn =>
    cases h
    split
    · exact .unchanged
    · exact .returned
  | powerLoss =>
    cases h
    split
    · exact .returned
    · exact .unchanged
  | resetLineAssert =>
    cases h
    split
    · exact .unchanged
    · split
      · exact .of_eq (beginReset_ramps s ⟨.resetLine, 0⟩)
      · exact .unchanged
  | resetLineRelease =>
    cases h
    dsimp only
    split
    · split
      · rw [finishReset_ramps]; exact .returned
      · exact .unchanged
    · exact .unchanged
  | resetEnd =>
    cases h
    split
    · rw [finishReset_ramps]; exact .returned
    · exact .unchanged

/-- All that a step can do to the ramp unit; on an empty queue it idles. -/
theorem step_ramps {s t : State} (h : step s = .next t) : s.ramps.Becomes t.ramps := by
  unfold step at h
  split at h
  · cases h; exact .unchanged
  · exact (exec_ramps h :)

/-- Settles O37, by what a step can make of the ramp unit. -/
theorem rampInvariantKept : Obligations.RampInvariantKept := fun _ _ hs h => (step_ramps h).ok hs

end Sys2Proof.Machine

/-! PROOFS. The watches (chapter 10). First the sets of watches and of conditions bit by bit; then the two requests that write the
watches (R151, R154), and what a band plan makes of one watch (R152, R153); then the statements. -/

namespace Sys2Proof.Machine

/-! ### Sets of watches and of conditions, bit by bit -/

/-- Bit n of a set of eight flags is flag n (R184). -/
theorem flagByte_getLsbD (v : Eight Bool) (i : Fin 8) : (flagByte v).getLsbD i = v.get i := by
  refine (BitVec.getLsbD_ofBoolListLE (bs := v.toList)).trans ?_
  fin_cases i <;> rfl

/-- Bit n of the tripped set is the tripped flag of watch n (R150). -/
theorem trippedSet_getLsbD (watches : Eight Watch) (i : Fin 8) :
    (trippedSet watches).getLsbD i = (watches.get i).tripped := by
  rw [trippedSet, flagByte_getLsbD, Eight.get_map]

/-- The clearing of a set goes to the tripped flags of the watches that it names, and to nothing else (R154). -/
theorem clearTripped_get (watches : Eight Watch) (set : Byte) (i : Fin 8) :
    (clearTripped watches set).get i =
      if set.getLsbD i then { watches.get i with tripped := false } else watches.get i := by
  fin_cases i <;> rfl

/-- Condition 12 is that the plan has a focus value and that it lies in the zone (R61). -/
theorem inZone_eq_any (lo hi : Nat) (focus : Option Nat) :
    inZone lo hi focus = focus.any fun v => decide (lo ≤ v ∧ v ≤ hi) := by
  cases focus <;> rfl

/-- Bit n of the conditions of a plan, with the zone of a watch, is that condition n holds (R61). -/
theorem bits_getLsbD (p : Plan) (lo hi : Nat) {n : Nat} (hn : n < 13) :
    (p.conditions.bits (inZone lo hi p.axes.focus.value)).getLsbD n = conditionHolds p lo hi n := by
  rw [inZone_eq_any]
  refine BitVec.getLsbD_ofBoolListLE.trans ?_
  interval_cases n <;> rfl

/-! ### WATCH_SET -/

/-- The fields of a WATCH_SET but its index are refused: a condition above 12 in one of the two sets, an expected condition that
is not selected, a zone whose bounds are out of order, or a level above 3 (R151). -/
def BadDefinition (body : List Byte) : Prop :=
  8192 ≤ fieldAt body 1 2 ∨ 8192 ≤ fieldAt body 3 2 ∨
    (∃ n, (fieldAt body 3 2).testBit n = true ∧ (fieldAt body 1 2).testBit n = false) ∨
    fieldAt body 7 2 < fieldAt body 5 2 ∨ 3 < fieldAt body 9 1

/-- A set of conditions is not within another exactly when it names a condition that the other does not. -/
theorem and_ne_left_iff {selection expected : Nat} (he : expected < 8192) :
    BitVec.ofNat 13 expected &&& BitVec.ofNat 13 selection ≠ BitVec.ofNat 13 expected ↔
      ∃ n, expected.testBit n = true ∧ selection.testBit n = false := by
  have bit (x : Nat) {n : Nat} (hn : n < 13) : (BitVec.ofNat 13 x).getLsbD n = x.testBit n := by
    rw [BitVec.getLsbD_ofNat, decide_eq_true hn, Bool.true_and]
  have low {n : Nat} (h : expected.testBit n = true) : n < 13 :=
    (Nat.pow_lt_pow_iff_right (by decide)).mp ((Nat.ge_two_pow_of_testBit h).trans_lt he)
  have differ {n : Nat} (hn : n < 13) :
      (BitVec.ofNat 13 expected &&& BitVec.ofNat 13 selection).getLsbD n ≠ (BitVec.ofNat 13 expected).getLsbD n ↔
        expected.testBit n = true ∧ selection.testBit n = false := by
    rw [BitVec.getLsbD_and, bit _ hn, bit _ hn]
    cases expected.testBit n <;> simp
  rw [Ne, BitVec.eq_of_getLsbD_eq_iff, not_forall₂]
  exact ⟨fun ⟨n, hn, h⟩ => ⟨n, (differ hn).mp h⟩, fun ⟨n, h⟩ => ⟨n, low h.1, (differ (low h.1)).mpr h⟩⟩

/-- The checks of the watch unit on the two sets as words are those on their numbers (R151). -/
theorem badDefinition_iff (body : List Byte) :
    (2 ^ 13 ≤ fieldAt body 1 2 ∨ 2 ^ 13 ≤ fieldAt body 3 2 ∨
      BitVec.ofNat 13 (fieldAt body 3 2) &&& BitVec.ofNat 13 (fieldAt body 1 2) ≠ BitVec.ofNat 13 (fieldAt body 3 2) ∨
      fieldAt body 7 2 < fieldAt body 5 2 ∨ 3 < fieldAt body 9 1) ↔ BadDefinition body := by
  refine or_congr_right ?_
  by_cases he : 8192 ≤ fieldAt body 3 2
  · exact iff_of_true (.inl he) (.inl he)
  · rw [and_ne_left_iff (Nat.lt_of_not_le he)]
    rfl

/-- The watch that a WATCH_SET makes of the watch it names (R151). -/
def redefined (body : List Byte) (w : Watch) : Watch :=
  w.define (BitVec.ofNat 13 (fieldAt body 1 2)) (BitVec.ofNat 13 (fieldAt body 3 2)) (fieldAt body 5 2)
    (fieldAt body 7 2) (fieldAt body 9 1)

/-- WATCH_SET is the taking of its request for the watch unit. -/
theorem exec_watchSet (q : Request) (s : State) :
    exec (.watchSet q) s = .next (takeRequest 0x14 q (watchSetOwner q) s) := rfl

/-- The taking of a record and a change of the watches do not meet. -/
theorem removeOldest_setWatches (s : State) (x : Eight Watch) :
    s.removeOldest.setWatches x = (s.setWatches x).removeOldest := rfl

section Defining

variable {q : Request} {s : State} {i : Fin 8}

/-- An index that names no watch, or a bad definition, is refused with BAD_VALUE (R151). -/
theorem watchSetOwner_refused (h : 8 ≤ fieldAt q.body 0 1 ∨ BadDefinition q.body) :
    watchSetOwner q s = refuse .badValue s := by
  unfold watchSetOwner
  cases hindex : index8 (fieldAt q.body 0 1) with
  | none => rfl
  | some i =>
    have hbad := h.resolve_left (by have := index8_eq_some.mp hindex; omega)
    exact if_pos ((badDefinition_iff q.body).mpr hbad)

/-- A good definition replaces that of the watch named, which is the answer (R151). -/
theorem watchSetOwner_redefines (hi : fieldAt q.body 0 1 = i.val) (hgood : ¬ BadDefinition q.body) :
    watchSetOwner q s =
      answer .ok (encodeWatch (redefined q.body (s.watches.get i)))
        (s.setWatches (s.watches.set i (redefined q.body (s.watches.get i)))) := by
  unfold watchSetOwner
  rw [index8_eq_some.mpr hi]
  exact if_neg ((badDefinition_iff q.body).not.mpr hgood)

variable (hl : q.body.length = 10) (ht : s.takes ⟨0x14, q.tag, q.body⟩ = true)
include hl ht

/-- A WATCH_SET that the watch unit refuses changes nothing. -/
theorem exec_watchSet_refused (h : 8 ≤ fieldAt q.body 0 1 ∨ BadDefinition q.body) :
    exec (.watchSet q) s = .next (s.answered (replyTo 0x14 q .badValue [])) := by
  rw [exec_watchSet, takeRequest_of_refusal ht (by rw [hl]; rfl) (watchSetOwner_refused h)]

/-- A WATCH_SET that passes its checks writes the watch that it names (R151). -/
theorem exec_watchSet_redefines (hi : fieldAt q.body 0 1 = i.val) (hgood : ¬ BadDefinition q.body) :
    exec (.watchSet q) s =
      .next ((s.setWatches (s.watches.set i (redefined q.body (s.watches.get i)))).answered
        (replyTo 0x14 q .ok (encodeWatch (redefined q.body (s.watches.get i))))) := by
  rw [exec_watchSet, takeRequest_of_answer ht (by rw [hl]; rfl)]
  rw [watchSetOwner_redefines hi hgood, removeOldest_watches, removeOldest_setWatches]

end Defining

/-! ### WATCH_CLEAR -/

/-- WATCH_CLEAR is the taking of its request for the watch unit. -/
theorem exec_watchClear (q : Request) (s : State) :
    exec (.watchClear q) s = .next (takeRequest 0x15 q (watchClearOwner q) s) := rfl

/-- A WATCH_CLEAR clears the set that its one byte is, and answers what is still tripped (R154). -/
theorem exec_watchClear_clears {q : Request} {named : Byte} {s : State} (hq : q.body = [named])
    (ht : s.takes ⟨0x15, q.tag, q.body⟩ = true) :
    exec (.watchClear q) s =
      .next ((s.setWatches (clearTripped s.watches named)).answered
        (replyTo 0x15 q .ok [trippedSet (clearTripped s.watches named)])) := by
  rw [exec_watchClear, takeRequest_of_answer ht (by rw [hq]; rfl)]
  rw [watchClearOwner, hq, List.headD_cons, removeOldest_watches, removeOldest_setWatches]

/-- Settles O38: WATCH_SET by its checks, WATCH_CLEAR watch by watch. -/
theorem watchRequestsAct : Obligations.WatchRequestsAct := by
  refine ⟨fun q s hl ht => ⟨exec_watchSet_refused hl ht, fun i hi hgood => exec_watchSet_redefines hl ht hi hgood⟩,
    fun q named s hq ht => ?_⟩
  exact ⟨clearTripped s.watches named, trippedSet (clearTripped s.watches named), clearTripped_get _ _,
    trippedSet_getLsbD _, exec_watchClear_clears hq ht⟩

/-! ### One watch and one band plan -/

/-- Bit n of the differing conditions is that condition n is selected and has not its expected value (R152). -/
theorem differing_getLsbD (w : Watch) (p : Plan) {n : Nat} (hn : n < 13) :
    (w.differing p).getLsbD n =
      (w.selection.getLsbD n && (conditionHolds p w.lo w.hi n ^^ w.expected.getLsbD n)) := by
  rw [Watch.differing, BitVec.getLsbD_and, BitVec.getLsbD_xor, bits_getLsbD p w.lo w.hi hn]

/-- A watch conforms when no selected condition differs from its expected value (R152). -/
theorem conforms_iff {w : Watch} {p : Plan} : w.conforms p = true ↔ ConformsTo w p := by
  rw [Watch.conforms, beq_iff_eq, BitVec.eq_of_getLsbD_eq_iff]
  refine forall₂_congr fun n hn => ?_
  rw [differing_getLsbD w p hn, show BitVec.getLsbD (0 : BitVec 13) n = false from BitVec.getLsbD_zero]
  cases w.selection.getLsbD n <;> simp

section Evaluation

variable {w : Watch} {p : Plan}

/-- A watch with an empty selection is not evaluated (R152). -/
theorem evaluate_of_selection_empty (h : w.selection = 0) : w.evaluate p = w := if_pos h

/-- A watch that conforms has the baseline CONFORM, whatever it was (R153). -/
theorem evaluate_of_conforms (hsel : w.selection ≠ 0) (h : ConformsTo w p) :
    w.evaluate p = { w with baseline := .conform } := by
  rw [Watch.evaluate, if_neg hsel, conforms_iff.mpr h]
  obtain ⟨selection, expected, lo, hi, level, baseline, tripped, owed⟩ := w
  cases baseline <;> rfl

/-- A watch that passes from CONFORM to not conforming trips, and owes a notice when its level is 1 to 3 (R153). -/
theorem evaluate_of_lost (hsel : w.selection ≠ 0) (h : ¬ ConformsTo w p) (hbase : w.baseline = .conform) :
    w.evaluate p =
      { w with baseline := .nonconform, tripped := true, owed := w.owed || decide (1 ≤ w.level) } := by
  rw [Watch.evaluate, if_neg hsel, Bool.eq_false_iff.mpr (conforms_iff.not.mpr h), hbase]

/-- A watch that does not conform, and did not before, has the baseline NONCONFORM and does not trip (R153). -/
theorem evaluate_of_not_conforms (hsel : w.selection ≠ 0) (h : ¬ ConformsTo w p) (hbase : w.baseline ≠ .conform) :
    w.evaluate p = { w with baseline := .nonconform } := by
  rw [Watch.evaluate, if_neg hsel, Bool.eq_false_iff.mpr (conforms_iff.not.mpr h)]
  obtain ⟨selection, expected, lo, hi, level, baseline, tripped, owed⟩ := w
  cases baseline with
  | unknown | nonconform => rfl
  | conform => exact absurd rfl hbase

end Evaluation

/-! ### Every band plan is offered -/

/-- A plan offered goes to each watch (R58 step 8). -/
theorem offerToWatches_get (s : State) (p : Plan) (i : Fin 8) :
    (s.offerToWatches p).watches.get i = (s.watches.get i).evaluate p := Eight.get_map _ _ i

/-- A pending BAND apply leaves the watches alone (R131). -/
@[simp] theorem bandApply_watches (s : State) : s.bandApply.watches = s.watches := by
  unfold State.bandApply
  split <;> rfl

/-- The making of a plan leaves the watches alone (R58). -/
@[simp] theorem makePlan_watches (s : State) (d : PlanId) (sMax : Nat) :
    (s.makePlan d sMax).2.watches = s.watches :=
  (congrArg State.watches (makePlan_leaves s d sMax).1 :)

/-- The planning of a band ends in the offer of its plan, then the latest, to the watches as they were (R58). -/
theorem planBand_offers (s : State) (c : StreamConfig) (h : FrameHeader) (b : Nat) :
    ∃ (u : State) (p : Plan),
      s.planBand c h b = u.offerToWatches p ∧ u.planner.latest = some p ∧ p.band = b ∧ u.watches = s.watches := by
  obtain ⟨-, -, hband, -⟩ :=
    makePlan_leaves (s.bandApply.evaluate (bandTime c h b)) ⟨h.frameNumber.toNat, b, bandTime c h b⟩ c.sMax
  refine ⟨_, _, rfl, rfl, hband, ?_⟩
  exact (makePlan_watches _ _ _).trans (bandApply_watches s)

/-- Settles O39: each watch by the table of R153, and the end of the planning of a band. -/
theorem watchTripsOnLosingConformity : Obligations.WatchTripsOnLosingConformity := by
  refine ⟨fun s p => ⟨rfl, fun i => ?_⟩, planBand_offers⟩
  dsimp only
  rw [offerToWatches_get]
  exact ⟨evaluate_of_selection_empty, fun hsel =>
    ⟨evaluate_of_conforms hsel, evaluate_of_lost hsel, evaluate_of_not_conforms hsel⟩⟩

end Sys2Proof.Machine

/-! PROOFS. The fault record (chapter 11): what FAULT_READ answers and what it leaves of the record, by its clear indication
(R171); then the statement. -/

namespace Sys2Proof.Machine

/-- FAULT_READ is the taking of its request for the fault record. -/
theorem exec_faultRead (q : Request) (s : State) :
    exec (.faultRead q) s = .next (takeRequest 0x17 q (faultReadOwner q) s) := rfl

/-- The taking of a record and a change of the fault record do not meet. -/
theorem removeOldest_setFaults (s : State) (x : Option FaultEntry) :
    s.removeOldest.setFaults x = (s.setFaults x).removeOldest := rfl

section Reading

variable {q : Request} {s : State}

/-- With the clear indication no, the record is reported and stays (R171). -/
theorem faultReadOwner_of_no (h : fieldAt q.body 0 1 = 0) :
    faultReadOwner q s = answer .ok (encodeFaults s.faults) s := by
  simp only [faultReadOwner, h]

/-- With the clear indication yes, the record is reported as it stood, and emptied (R171). -/
theorem faultReadOwner_of_yes (h : fieldAt q.body 0 1 = 1) :
    faultReadOwner q s = answer .ok (encodeFaults s.faults) (s.setFaults none) := by
  simp only [faultReadOwner, h]

/-- A clear indication that is neither no nor yes is refused with BAD_VALUE (R171). -/
theorem faultReadOwner_of_neither (h : 2 ≤ fieldAt q.body 0 1) : faultReadOwner q s = refuse .badValue s := by
  unfold faultReadOwner
  split
  next hno => omega
  next hyes => omega
  next => rfl

end Reading

/-- Settles O40, by the clear indication. -/
theorem faultReadReportsAndClears : Obligations.FaultReadReportsAndClears := by
  intro q n s hq ht
  have hfield : fieldAt q.body 0 1 = n.toNat := fieldAt_byte (by rw [hq]; rfl)
  have hlength : lengthAgrees 0x17 q.body.length = true := by rw [hq]; rfl
  rw [exec_faultRead]
  refine ⟨fun hno => ?_, fun hyes => ?_, fun hneither => ?_⟩
  · have howner := faultReadOwner_of_no (s := s.removeOldest) (hfield.trans (congrArg BitVec.toNat hno))
    rw [takeRequest_of_answer ht hlength howner, removeOldest_faults]
  · have howner := faultReadOwner_of_yes (s := s.removeOldest) (hfield.trans (congrArg BitVec.toNat hyes))
    rw [removeOldest_faults, removeOldest_setFaults] at howner
    exact congrArg Host.Outcome.next (takeRequest_of_answer ht hlength howner)
  · rw [takeRequest_of_refusal ht hlength (faultReadOwner_of_neither (hfield ▸ hneither))]

end Sys2Proof.Machine

/-! PROOFS. All that a command can do, said once: what the owner of a request can have done when it answers, what the taking of
a record comes to, and then every command. The statements on the taking of requests follow from it. -/

namespace Sys2Proof.Machine

/-! ### The owners of the requests -/

/-- What the owner of the request with record `r` can have done when it answers OK: nothing, for a request that reports; the
change of the subscription set (R162); the opening, the writing, the closing or the emptying of a slot (R8, R11, R14, R15); the
configuring, starting or stopping of the stream (R103, R105, R106); the staging of a value, an apply at once or later, and a
cancel (R127, R130, R133); a capture owed (R66); a ramp command (R138); a change of the watches (R151, R154); the emptying of
the fault record (R171); a sample taken (R25); or a STREAM restart (R175). -/
inductive State.Deed (r : Record) (s : State) : State → Prop where
  | reported : Deed r s s
  | subscribed (new : BitVec 8) :
      Deed r s ((s.setNotices (s.notices.resubscribe s.control.subscriptions new)).setControl
        { s.control with subscriptions := new })
  | opened {i : Fin 8} {g : Geometry} (infinity : InfinityEnd) (label : List Byte) :
      g.admissible = true → s.slots.get i = .empty → (g.isPair = true → s.slots.get (partnerOf i) = .empty) →
      Deed r s (s.setSlots (openSlot s.slots i (newProfile g infinity label)))
  | written {i : Fin 8} {p : Profile} {k : Section5} {first : Nat} {bytes : List Byte} :
      s.slots.get i = .live .opened p → first + (runElements k bytes).length ≤ p.geometry.count k →
      (∀ element ∈ runElements k bytes, element.all (codeGood k) = true) →
      Deed r s (s.setSlots
        (s.slots.set i (.live .opened { p with body := p.body.store k first (runElements k bytes) })))
  | closed {i : Fin 8} {p : Profile} :
      s.slots.get i = .live .opened p → p.body.firstMissing = none → p.body.firstUnordered = none →
      Deed r s (s.setSlots (s.slots.set i (.live .ready p)))
  | discarded {i : Fin 8} {stage : Stage} {p : Profile} :
      s.slots.get i = .live stage p → stage = .opened ∨ stage = .ready ∧ s.settings.holds i = false →
      Deed r s (s.setSlots (emptySlot s.slots i p.pair))
  | pixel {x : PixelPath} : x.frame = s.pixel.frame → Deed r s (s.setPixel x)
  | staged {v : Setting} : pairingGood s.settings.staged v = true → slotGood s.slots v = true →
      Deed r s (s.setSettings (s.settings.write v))
  | applied : Deed r s s.applyNow
  | raised (pending : ApplyPending) : Deed r s (s.setSettings { s.settings with apply := pending })
  | cancelled : Deed r s (s.setSettings s.settings.cancelled)
  | captureOwed : Deed r s (s.setPlanner { s.planner with captureOwed := true })
  | ramps (x : RampUnit) : Deed r s (s.setRamps x)
  | watches (x : Eight Watch) : Deed r s (s.setWatches x)
  | faultsCleared : r.kind = 0x17 → fieldAt r.body 0 1 = 1 → Deed r s (s.setFaults none)
  | sampled {x : Sample} : x.InRange → Deed r s (s.setIntake (s.intake.take .panel x))
  | streamRestarted : Deed r s s.streamRestart

/-- What the owner of the request with record `r` can answer: a refusal, which changes nothing; the refusal of a SAMPLE out of
order, which is counted (R26); or OK with what it has done. -/
inductive Answer.Of (r : Record) (s : State) : Answer → Prop where
  | refused {code : ResultCode} (fields : List Byte) : code ≠ .ok → Of r s (answer code fields s)
  | outOfOrder {x : Sample} : r.kind = 0x20 → x.InRange →
      Of r s (answer .order [] (s.setIntake (s.intake.take .panel x)))
  | done {t : State} (fields : List Byte) : s.Deed r t → Of r s (answer .ok fields t)

theorem Answer.Of.refuse {r : Record} {s : State} {code : ResultCode} (h : code ≠ .ok) : Answer.Of r s (refuse code s) :=
  .refused [] h

section Owners

variable (r : Record) (q : Request) (s : State)

theorem subscribeOwner_of : (subscribeOwner q s).Of r s := by
  unfold subscribeOwner
  dsimp only
  split
  · exact .refuse nofun
  · exact .done _ (.subscribed _)

/-- A slot that the rules for a slot request choose is EMPTY, and its partner with it for a pair profile (R6, R7). -/
theorem chosen_empty {slots : Eight Slot} {pair : Bool} {i : Fin 8}
    (h : (if pair then choosePair slots else chooseSingle slots) = some i ∨ namedSlotFits slots pair i = true) :
    slots.get i = .empty ∧ (pair = true → slots.get (partnerOf i) = .empty) := by
  cases pair with
  | true =>
    have hwhole : WholePair slots i := h.elim (fun h => (choosePair_eq_some.mp h).1) namedSlotFits_pair.mp
    exact ⟨hwhole.2.1, fun _ => hwhole.2.2⟩
  | false =>
    refine ⟨?_, nofun⟩
    rcases h with h | h
    · replace h : chooseSingle slots = some i := h
      unfold chooseSingle at h
      split at h
      · rename_i hfind
        obtain rfl := Option.some.inj h
        exact (halfPair_iff.mp (find?_indices8_eq_some.mp hfind).1).1
      · exact Slot.isEmpty_iff.mp (find?_indices8_eq_some.mp h).1
    · exact namedSlotFits_single.mp h

theorem allocate_of {g : Geometry} (hg : g.admissible = true) (request : Nat) (infinity : InfinityEnd) (label : List Byte) :
    (allocate s request (newProfile g infinity label)).Of r s := by
  have opens {i : Fin 8} (h : (if g.isPair then choosePair s.slots else chooseSingle s.slots) = some i ∨
      namedSlotFits s.slots g.isPair i = true) : (openAt s i (newProfile g infinity label)).Of r s :=
    have ⟨hempty, hpartner⟩ := chosen_empty h
    .done _ (.opened infinity label hg hempty hpartner)
  unfold allocate
  split
  · split
    · exact opens (.inl ‹_›)
    · exact .refuse nofun
  · split
    · split
      · exact opens (.inr ‹_›)
      · exact .refuse nofun
    · exact .refuse nofun

theorem profileOpenOwner_of : (profileOpenOwner q s).Of r s := by
  unfold profileOpenOwner
  dsimp only
  split
  · split
    · rename_i hgood
      exact allocate_of r s (Bool.and_eq_true _ _ ▸ hgood).1 _ _ _
    · exact .refuse nofun
  · exact .refuse nofun

theorem profileWriteOwner_of : (profileWriteOwner q s).Of r s := by
  unfold profileWriteOwner
  dsimp only
  split
  · exact .refuse nofun
  · split
    · exact .refused _ nofun
    · split
      · exact .refuse nofun
      · split
        · rename_i hslot
          unfold writeRun
          split
          · exact .refuse nofun
          · split
            · rename_i hfits hcodes
              exact .done _ (.written hslot (Nat.le_of_not_lt hfits) (List.all_eq_true.mp hcodes))
            · exact .refuse nofun
        · exact .refuse nofun

theorem profileCloseOwner_of : (profileCloseOwner q s).Of r s := by
  unfold profileCloseOwner
  split
  · exact .refuse nofun
  · split
    · rename_i hslot
      unfold closeSlot
      split
      · exact .refused _ nofun
      · split
        · exact .refused _ nofun
        · exact .done _ (.closed hslot ‹_› ‹_›)
    · exact .refuse nofun

theorem profileDiscardOwner_of : (profileDiscardOwner q s).Of r s := by
  unfold profileDiscardOwner
  split
  · exact .refuse nofun
  · split
    · exact .done _ (.discarded ‹_› (.inl rfl))
    · split
      · exact .refuse nofun
      · rename_i hfree
        exact .done _ (.discarded ‹_› (.inr ⟨rfl, Bool.eq_false_iff.mpr hfree⟩))
    · exact .refuse nofun

theorem profileQueryOwner_of : (profileQueryOwner q s).Of r s := by
  unfold profileQueryOwner
  split
  · exact .refuse nofun
  · exact .done _ .reported

theorem streamConfigureOwner_of : (streamConfigureOwner q s).Of r s := by
  unfold streamConfigureOwner
  dsimp only
  split
  · exact .refuse nofun
  · split
    · exact .refuse nofun
    · split
      · exact .refused _ nofun
      · exact .done _ (.pixel rfl)

theorem streamStartOwner_of : (streamStartOwner s).Of r s := by
  unfold streamStartOwner
  split
  · split
    · exact .done _ (.pixel rfl)
    · exact .refuse nofun
  · exact .done _ .reported

theorem streamStopOwner_of : (streamStopOwner s).Of r s := by
  refine .done _ (.pixel ?_)
  unfold PixelPath.stop
  split <;> rfl

theorem stageWriteOwner_of : (stageWriteOwner q s).Of r s := by
  unfold stageWriteOwner
  dsimp only
  split
  · exact .refuse nofun
  · split
    · exact .refused _ nofun
    · split
      · rename_i v _
        unfold stageSetting
        cases hpaired : pairingGood s.settings.staged v with
        | false => exact .refuse nofun
        | true =>
          cases hslot : slotGood s.slots v with
          | false => exact .refuse nofun
          | true => exact .done _ (.staged hpaired hslot)
      · exact .refuse nofun

theorem stageApplyOwner_of : (stageApplyOwner q s).Of r s := by
  unfold stageApplyOwner
  split
  · exact .refuse nofun
  · refine .done _ ?_
    split
    · exact .applied
    · exact .raised _

theorem rampOwner_of : (rampOwner q s).Of r s := by
  unfold rampOwner
  split
  · exact .done _ (.ramps _)
  · exact .refuse nofun

theorem watchSetOwner_of : (watchSetOwner q s).Of r s := by
  unfold watchSetOwner
  dsimp only
  split
  · exact .refuse nofun
  · split
    · exact .refuse nofun
    · exact .done _ (.watches _)

theorem faultReadOwner_of (hkind : r.kind = 0x17) (hbody : r.body = q.body) : (faultReadOwner q s).Of r s := by
  unfold faultReadOwner
  split
  · exact .done _ .reported
  · rename_i hclear
    exact .done _ (.faultsCleared hkind (hbody ▸ hclear))
  · exact .refuse nofun

theorem sampleOwner_of (hkind : r.kind = 0x20) : (sampleOwner q s).Of r s := by
  unfold sampleOwner
  dsimp only
  split
  · exact .refuse nofun
  · split
    · exact .refuse nofun
    · split
      · exact .refused _ nofun
      · split
        · exact .done _ (.sampled (sampleOf_inRange _))
        · exact .outOfOrder hkind (sampleOf_inRange _)

theorem restartOwner_of : (restartOwner q s).Of r s := by
  unfold restartOwner
  split
  · exact .done _ .streamRestarted
  · exact .refuse nofun

end Owners

/-! ### The taking of a record -/

/-- The record is a RESTART of level WARM or COLD, which begins a device-level reset and is not answered (R176). -/
def IsDeviceRestart (r : Record) : Prop := r.kind = 0x04 ∧ (r.body = [1] ∨ r.body = [2])

/-- What the taking of the record `r` comes to (R176, R188): the answer BAD_KIND or BAD_LENGTH, the answer of its owner, or the
begin of a device-level reset. -/
inductive State.Taken (s : State) (r : Record) : State → Prop where
  | unknown : requestLength r.kind = none → Taken s r (s.answered ⟨0xFF, r.tag, [1, r.kind]⟩)
  | wrongLength : (requestLength r.kind).isSome = true → lengthAgrees r.kind r.body.length = false →
      Taken s r (s.answered ⟨r.kind + 0x80, r.tag, 2 :: leBytes 2 r.body.length⟩)
  | answered {a : Answer} : (requestLength r.kind).isSome = true → lengthAgrees r.kind r.body.length = true →
      ¬ IsDeviceRestart r → a.Of r s.removeOldest → Taken s r (a.state.reply ⟨r.kind + 0x80, r.tag, a.body⟩)
  | begun : IsDeviceRestart r →
      Taken s r (s.removeOldest.beginReset ⟨if r.body = [1] then .warmRequest else .coldRequest, r.tag⟩)

/-- A command of a request's row and its record come to nothing when the link does not take the record, or when the record is
not the row's, and otherwise to the taking of the record. -/
inductive Requests (c : Instr) (r : Record) (s : State) : State → Prop where
  | untaken : s.takes r = false ∨ c.wf = false → Requests c r s s
  | taken {t : State} : s.takes r = true → s.Taken r t → Requests c r s t

section Taking

variable {c : Instr} {kind : Byte} {q : Request} {owner : State → Answer} {s : State}

/-- A request of a known kind that is no RESTART of a device level is answered by its owner, if its length is right. -/
theorem takeRequest_requests (hkind : (requestLength kind).isSome = true)
    (hnot : ¬ IsDeviceRestart ⟨kind, q.tag, q.body⟩) (howner : ∀ t, (owner t).Of ⟨kind, q.tag, q.body⟩ t) :
    Requests c ⟨kind, q.tag, q.body⟩ s (takeRequest kind q owner s) := by
  cases ht : s.takes ⟨kind, q.tag, q.body⟩ with
  | false => rw [takeRequest_of_not_takes ht]; exact .untaken (.inl ht)
  | true =>
    refine .taken ht ?_
    cases hl : lengthAgrees kind q.body.length with
    | false => rw [takeRequest_of_wrong_length ht hl]; exact .wrongLength hkind hl
    | true => rw [takeRequest_of_takes ht hl]; exact .answered hkind hl hnot (howner _)

theorem takeUnknown_requests (hwf : isUnknownKind kind = false → c.wf = false) :
    Requests c ⟨kind, q.tag, q.body⟩ s (takeUnknown kind q s) := by
  cases hk : (requestLength kind).isNone with
  | false =>
    have hs : takeUnknown kind q s = s := by simp [takeUnknown, hk]
    rw [hs]
    exact .untaken (.inr (hwf hk))
  | true =>
    cases ht : s.takes ⟨kind, q.tag, q.body⟩ with
    | false =>
      have hs : takeUnknown kind q s = s := by simp [takeUnknown, ht]
      rw [hs]
      exact .untaken (.inl ht)
    | true => rw [takeUnknown_of_takes ht hk]; exact .taken ht (.unknown (Option.isNone_iff_eq_none.mp hk))

theorem takeRamp_requests {form : Nat} (hwf : rampFits form q = false → c.wf = false) :
    Requests c ⟨0x13, q.tag, q.body⟩ s (takeRamp form q s) := by
  unfold takeRamp
  split
  · exact takeRequest_requests rfl (fun h => absurd (show (0x13 : Byte) = 0x04 from h.1) (by decide)) (rampOwner_of _ q)
  · rename_i hfits
    exact .untaken (.inr (hwf (Bool.eq_false_iff.mpr hfits)))

/-- A RESTART of level WARM or COLD is one of a device level. -/
theorem isDeviceRestart_iff {tag : Byte} :
    IsDeviceRestart ⟨0x04, tag, q.body⟩ ↔ restartLevel q = some 1 ∨ restartLevel q = some 2 := by
  have level (n : Byte) : restartLevel q = some n.toNat ↔ q.body = [n] := by
    unfold restartLevel
    split
    · rename_i level hbody
      rw [hbody]
      simp [BitVec.toNat_inj]
    · rename_i hother
      exact ⟨nofun, fun h => absurd h (hother n)⟩
  rw [IsDeviceRestart, ← level 1, ← level 2]
  exact and_iff_right rfl

/-- The row of a RESTART level does not take the records of another coded level (R175). -/
theorem restartLevel_of_fits {level n : Nat} (hfits : restartFits level q = true) (hn : restartLevel q = some n)
    (hcoded : n ≤ 2) : n = level := by
  rw [restartFits, hn] at hfits
  simp at hfits
  omega

theorem takeRequest_restart_requests (h : ¬ IsDeviceRestart ⟨0x04, q.tag, q.body⟩) :
    Requests c ⟨0x04, q.tag, q.body⟩ s (takeRequest 0x04 q (restartOwner q) s) :=
  takeRequest_requests rfl h (restartOwner_of _ q)

theorem takeRestart_requests {level : Nat} {cause : ResetCause} (hwf : restartFits level q = false → c.wf = false)
    (hlevel : (level, cause) = (1, .warmRequest) ∨ (level, cause) = (2, .coldRequest)) :
    Requests c ⟨0x04, q.tag, q.body⟩ s (takeRestart level cause q s) := by
  unfold takeRestart
  cases hfits : restartFits level q with
  | false => exact .untaken (.inr (hwf hfits))
  | true =>
    by_cases hl : restartLevel q = some level
    · have hdevice : IsDeviceRestart ⟨0x04, q.tag, q.body⟩ := by
        rw [isDeviceRestart_iff, hl]
        rcases hlevel with h | h <;> cases h <;> simp
      have hcause : cause = if q.body = [1] then .warmRequest else .coldRequest := by
        obtain ⟨-, hbody⟩ := hdevice
        replace hbody : q.body = [1] ∨ q.body = [2] := hbody
        rcases hlevel with h | h <;> cases h <;> rcases hbody with hbody | hbody <;>
          simp [restartLevel, hbody] at hl ⊢
      simp only [Bool.not_true, Bool.false_eq_true, if_false, if_pos hl, takeDeviceRestart]
      cases ht : s.takes ⟨0x04, q.tag, q.body⟩ with
      | false => exact .untaken (.inl ht)
      | true => rw [if_pos rfl, hcause]; exact .taken ht (.begun hdevice)
    · simp only [Bool.not_true, Bool.false_eq_true, if_false, if_neg hl]
      refine takeRequest_restart_requests ?_
      rw [isDeviceRestart_iff]
      rintro (h | h) <;> exact hl (restartLevel_of_fits hfits h (by omega) ▸ h)

end Taking

/-- A command of a request's row: all that it can do. -/
theorem exec_requests {c : Instr} {r : Record} (hr : c.record? = some r) (s : State) :
    ∃ t, exec c s = .next t ∧ Requests c r s t := by
  have other {kind tag : Byte} {body : List Byte} (h : kind ≠ 0x04) : ¬ IsDeviceRestart ⟨kind, tag, body⟩ :=
    fun hd => h hd.1
  have reports {kind : Byte} {q : Request} {fields : State → List Byte} (hk : (requestLength kind).isSome = true)
      (h : kind ≠ 0x04) :
      Requests c ⟨kind, q.tag, q.body⟩ s (takeRequest kind q (fun t => answer .ok (fields t) t) s) :=
    takeRequest_requests hk (other h) fun _ => .done _ .reported
  have unfit {a b : Bool} (h : b = false) : (a && b) = false := by rw [h, Bool.and_false]
  cases c with
  | identify q | status q | streamRead q | stageRead q | watchRead q =>
    obtain rfl := Option.some.inj hr
    exact ⟨_, rfl, reports rfl (by decide)⟩
  | subscribe q => cases hr; exact ⟨_, rfl, takeRequest_requests rfl (other (by decide)) (subscribeOwner_of _ q)⟩
  | profileOpen q => cases hr; exact ⟨_, rfl, takeRequest_requests rfl (other (by decide)) (profileOpenOwner_of _ q)⟩
  | profileWrite q => cases hr; exact ⟨_, rfl, takeRequest_requests rfl (other (by decide)) (profileWriteOwner_of _ q)⟩
  | profileClose q => cases hr; exact ⟨_, rfl, takeRequest_requests rfl (other (by decide)) (profileCloseOwner_of _ q)⟩
  | profileDiscard q => cases hr; exact ⟨_, rfl, takeRequest_requests rfl (other (by decide)) (profileDiscardOwner_of _ q)⟩
  | profileQuery q => cases hr; exact ⟨_, rfl, takeRequest_requests rfl (other (by decide)) (profileQueryOwner_of _ q)⟩
  | streamConfigure q => cases hr; exact ⟨_, rfl, takeRequest_requests rfl (other (by decide)) (streamConfigureOwner_of _ q)⟩
  | streamStart q => cases hr; exact ⟨_, rfl, takeRequest_requests rfl (other (by decide)) (streamStartOwner_of _)⟩
  | streamStop q => cases hr; exact ⟨_, rfl, takeRequest_requests rfl (other (by decide)) (streamStopOwner_of _)⟩
  | stageWrite q => cases hr; exact ⟨_, rfl, takeRequest_requests rfl (other (by decide)) (stageWriteOwner_of _ q)⟩
  | stageApply q => cases hr; exact ⟨_, rfl, takeRequest_requests rfl (other (by decide)) (stageApplyOwner_of _ q)⟩
  | stageCancel q => cases hr; exact ⟨_, rfl, takeRequest_requests rfl (other (by decide)) fun _ => .done _ .cancelled⟩
  | framingCapture q => cases hr; exact ⟨_, rfl, takeRequest_requests rfl (other (by decide)) fun _ => .done _ .captureOwed⟩
  | rampContinue q | rampRestart q | rampNow q | rampHalt q => cases hr; exact ⟨_, rfl, takeRamp_requests unfit⟩
  | watchSet q => cases hr; exact ⟨_, rfl, takeRequest_requests rfl (other (by decide)) (watchSetOwner_of _ q)⟩
  | watchClear q => cases hr; exact ⟨_, rfl, takeRequest_requests rfl (other (by decide)) fun _ => .done _ (.watches _)⟩
  | faultRead q =>
    cases hr; exact ⟨_, rfl, takeRequest_requests rfl (other (by decide)) fun t => faultReadOwner_of _ q t rfl rfl⟩
  | sample q => cases hr; exact ⟨_, rfl, takeRequest_requests rfl (other (by decide)) fun t => sampleOwner_of _ q t rfl⟩
  | unknownKind kind q => cases hr; exact ⟨_, rfl, takeUnknown_requests unfit⟩
  | restartStream q =>
    cases hr
    refine ⟨_, rfl, ?_⟩
    split
    · rename_i hfits
      refine takeRequest_restart_requests ?_
      rw [isDeviceRestart_iff]
      rintro (h | h) <;> exact absurd (restartLevel_of_fits hfits h (by decide)) (by decide)
    · rename_i hfits
      exact .untaken (.inr (unfit (Bool.eq_false_iff.mpr hfits)))
  | restartWarm q => cases hr; exact ⟨_, rfl, takeRestart_requests unfit (.inl rfl)⟩
  | restartCold q => cases hr; exact ⟨_, rfl, takeRestart_requests unfit (.inr rfl)⟩
  | _ => cases hr

/-! ### Every command -/

/-- All that a command can do: nothing; what the taking of its record comes to; the receiving of bytes (R182, R193); the arrival of
a packet in a running part (R108, R109, R113); the start or the end of a sending (R189); and the changes of the supply, of the
reset line and of a reset under way (R176, R177). -/
inductive State.Does (c : Instr) (s : State) : State → Prop where
  | idle : Does c s s
  | taken {r : Record} {t : State} : c.record? = some r → s.takes r = true → s.Taken r t → Does c s t
  | controlBytes (bytes : List Byte) : Does c s (s.controlBytes bytes)
  | lensBytes (bytes : List Byte) : Does c s (s.lensBytes bytes)
  | packet {t : State} : s.running = true → s.Packet t → Does c s t
  | sendReply : Does c s s.sendReply
  | sendNotice : Does c s s.sendNotice
  | sendEnd : Does c s s.sendEnd
  | poweredOn {run : ResetRun} : c = .powerOn → s.powered = false →
      Does c s ((s.blank.setPowered true).setResetRun (some run))
  | powerLost : c = .powerLoss → s.powered = true → Does c s (s.cutSending.blank.setPowered false)
  | lineAsserted {run : ResetRun} : s.powered = true → Does c s ((s.beginReset run).setResetLine true)
  | lineMoved (x : Bool) : Does c s (s.setResetLine x)
  | lineReleased {run : ResetRun} : c = .resetLineRelease → s.powered = true → s.resetRun.isSome = true →
      Does c s ((s.setResetLine false).finishReset run)
  | resetEnded {run : ResetRun} : c = .resetEnd → s.powered = true → s.resetRun.isSome = true → Does c s (s.finishReset run)

theorem State.Does.of_requests {c : Instr} {r : Record} {s t : State} (hr : c.record? = some r) (h : Requests c r s t) :
    s.Does c t := by
  cases h with
  | untaken _ => exact .idle
  | taken ht htaken => exact .taken hr ht htaken

/-- Every command does one of these, and goes on. -/
theorem exec_does (c : Instr) (s : State) : ∃ t, exec c s = .next t ∧ s.Does c t := by
  have packet {b : Bool} {t : State} (hb : b = true → s.running = true) (ht : s.Packet t) :
      s.Does c (if b then t else s) := by
    cases b with
    | false => exact .idle
    | true => exact .packet (hb rfl) ht
  cases hr : c.record? with
  | some r =>
    obtain ⟨t, ht, hrequests⟩ := exec_requests hr s
    exact ⟨t, ht, .of_requests hr hrequests⟩
  | none =>
    cases c with
    | controlRecordArrival bytes | notReadyRecord bytes => exact ⟨_, rfl, .controlBytes bytes⟩
    | lensRecordArrival bytes => exact ⟨_, rfl, .lensBytes bytes⟩
    | frameHeader x => exact ⟨_, rfl, packet id (.header x)⟩
    | rampComplete x =>
      exact ⟨_, rfl, packet (fun hb => by simp only [Bool.and_eq_true] at hb; exact hb.1.1) (.header x)⟩
    | inputRow row => exact ⟨_, rfl, packet id (.row row)⟩
    | frameEnd => exact ⟨_, rfl, packet id .frameEnd⟩
    | sendReply => exact ⟨_, rfl, .sendReply⟩
    | sendNotice => exact ⟨_, rfl, .sendNotice⟩
    | sendEnd => exact ⟨_, rfl, .sendEnd⟩
    | powerOn =>
      refine ⟨_, rfl, ?_⟩
      split
      · exact .idle
      · rename_i hpowered
        exact .poweredOn rfl (Bool.eq_false_iff.mpr hpowered)
    | powerLoss =>
      refine ⟨_, rfl, ?_⟩
      split
      · exact .powerLost rfl ‹_›
      · exact .idle
    | resetLineAssert =>
      refine ⟨_, rfl, ?_⟩
      split
      · exact .idle
      · split
        · exact .lineAsserted ‹_›
        · exact .lineMoved true
    | resetLineRelease =>
      refine ⟨_, rfl, ?_⟩
      split
      · dsimp only
        split
        · rename_i hreset
          obtain ⟨hpowered, hrun⟩ := Bool.and_eq_true_iff.mp hreset
          exact .lineReleased rfl hpowered hrun
        · exact .lineMoved false
      · exact .idle
    | resetEnd =>
      refine ⟨_, rfl, ?_⟩
      split
      · rename_i hpowered hrun
        exact .resetEnded rfl (Bool.and_eq_true_iff.mp hpowered).1 (by rw [hrun]; rfl)
      · exact .idle
    | _ => cases hr

theorem does_of_exec {c : Instr} {s t : State} (h : exec c s = .next t) : s.Does c t := by
  obtain ⟨u, hu, hdoes⟩ := exec_does c s
  cases hu.symm.trans h
  exact hdoes

/-- What every command keeps, every step keeps; on an empty queue a step idles. -/
theorem step_keeps {P : State → Prop} (hpending : ∀ s rest, P s → P (s.setPending rest))
    (hexec : ∀ c s t, P s → s.Does c t → P t) {s t : State} (hs : P s) (h : step s = .next t) : P t := by
  unfold step at h
  split at h
  · cases h; exact hs
  · rename_i c rest _
    exact hexec c _ t (hpending s rest hs) (does_of_exec h)

end Sys2Proof.Machine

/-! PROOFS. The queue of commands and the taking of requests (R176, R188, R190), from all that a command can do. -/

namespace Sys2Proof.Machine

/-! ### What the owner of a request leaves of the link side -/

/-- Of the link side the owner of a request can change the subscription set and the intake alone (R25, R162). -/
theorem State.Deed.linkSide {r : Record} {s t : State} (h : s.Deed r t) :
    t.linkSide =
      { s.linkSide with
        control := { s.control with subscriptions := t.control.subscriptions }, intake := t.intake } := by
  cases h with
  | streamRestarted =>
    have hkept : s.streamRestart.linkSide = s.linkSide := by simp [State.streamRestart]
    have hcontrol : s.streamRestart.control = s.control := congrArg LinkSide.control hkept
    rw [hkept, hcontrol, intake_eq_of_linkSide_eq hkept]
    rfl
  | _ => rfl

theorem Answer.Of.linkSide {r : Record} {s : State} {a : Answer} (h : a.Of r s) :
    a.state.linkSide =
      { s.linkSide with
        control := { s.control with subscriptions := a.state.control.subscriptions }, intake := a.state.intake } := by
  cases h with
  | done _ hdeed => exact hdeed.linkSide
  | _ => rfl

theorem Answer.Of.control {r : Record} {s : State} {a : Answer} (h : a.Of r s) :
    a.state.control = { s.control with subscriptions := a.state.control.subscriptions } :=
  (congrArg LinkSide.control h.linkSide :)

theorem Answer.Of.replies {r : Record} {s : State} {a : Answer} (h : a.Of r s) :
    a.state.control.replies = s.control.replies := by rw [h.control]

theorem Answer.Of.resetRun {r : Record} {s : State} {a : Answer} (h : a.Of r s) : a.state.resetRun = s.resetRun :=
  (congrArg LinkSide.resetRun h.linkSide :)

theorem Answer.Of.pending {r : Record} {s : State} {a : Answer} (h : a.Of r s) : a.state.pending = s.pending :=
  (congrArg LinkSide.pending h.linkSide :)

/-! ### The queue of waiting commands -/

section Pending

variable (s : State)

@[simp] theorem beginReset_pending (run : ResetRun) : (s.beginReset run).pending = s.pending := by rw [beginReset_eq]

@[simp] theorem blank_pending : s.blank.pending = s.pending := by
  simp [State.blank, State.coldValues, State.resetCommon]

@[simp] theorem cutSending_pending : s.cutSending.pending = s.pending := by rw [cutSending_eq]

@[simp] theorem finishReset_pending (run : ResetRun) : (s.finishReset run).pending = s.pending := by
  unfold State.finishReset
  dsimp only
  split <;> simp [State.coldValues, State.warmValues, State.resetCommon]

theorem controlBytes_pending (bytes : List Byte) : (s.controlBytes bytes).pending = s.pending := by
  unfold State.controlBytes
  split <;> rfl

theorem lensBytes_pending (bytes : List Byte) : (s.lensBytes bytes).pending = s.pending := by
  have hevent (t : State) (e : Option Record) : (t.lensEvent e).pending = t.pending := by
    unfold State.lensEvent
    split <;> rfl
  unfold State.lensBytes
  split
  · exact List.foldlRecOn (motive := fun t : State => t.pending = s.pending) _ _ rfl
      fun t ht e _ => (hevent t e).trans ht
  · rfl

theorem sendReply_pending : s.sendReply.pending = s.pending := by
  unfold State.sendReply
  split <;> rfl

theorem sendNotice_pending : s.sendNotice.pending = s.pending := by
  have hclear (o : Offer) : (s.clearOffer o).pending = s.pending := by cases o <;> rfl
  unfold State.sendNotice
  split
  · exact hclear _
  · rfl

theorem sendEnd_pending : s.sendEnd.pending = s.pending := by
  unfold State.sendEnd
  split <;> rfl

end Pending

/-- A packet leaves the link side alone (R108, R109, R113). -/
theorem State.Packet.linkSide {s t : State} (h : s.Packet t) : t.linkSide = s.linkSide := by
  cases h with
  | header x => exact headerArrives_linkSide s x
  | row row => exact rowArrives_linkSide s row
  | frameEnd => exact endArrives_linkSide s

theorem State.Taken.pending {s t : State} {r : Record} (h : s.Taken r t) : t.pending = s.pending := by
  cases h with
  | answered _ _ _ ha => exact ha.pending
  | begun _ => exact beginReset_pending s.removeOldest _
  | _ => rfl

/-- No command touches the queue of waiting commands. -/
theorem State.Does.pending {c : Instr} {s t : State} (h : s.Does c t) : t.pending = s.pending := by
  cases h with
  | taken _ _ htaken => exact htaken.pending
  | controlBytes bytes => exact controlBytes_pending s bytes
  | lensBytes bytes => exact lensBytes_pending s bytes
  | packet _ hpacket => exact congrArg LinkSide.pending hpacket.linkSide
  | sendReply => exact sendReply_pending s
  | sendNotice => exact sendNotice_pending s
  | sendEnd => exact sendEnd_pending s
  | idle | lineMoved _ => rfl
  | _ => simp

/-- Settles O1, by the step's own first case. -/
theorem stepRunsFrontCommand : Obligations.StepRunsFrontCommand := by
  intro c rest s h
  rw [step, h]
  rfl

/-- Settles O2: every command does what commands can do, and none of that touches the queue. -/
theorem everyCommandGoesOn : Obligations.EveryCommandGoesOn := by
  refine ⟨fun c s => ?_, fun s h => by rw [step, h]⟩
  obtain ⟨t, ht, hdoes⟩ := exec_does c s
  exact ⟨t, ht, hdoes.pending⟩

/-! ### The taking of a request -/

/-- A record that begins a device-level reset is one of a known kind and a right length. -/
theorem IsDeviceRestart.lengthAgrees {r : Record} (h : IsDeviceRestart r) : lengthAgrees r.kind r.body.length = true := by
  obtain ⟨hkind, hbody | hbody⟩ := h <;> rw [hkind, hbody] <;> rfl

/-- A well-formed command whose record the link takes does what the taking comes to. -/
theorem exec_taken {c : Instr} {r : Record} {s : State} (hwf : c.wf = true) (hr : c.record? = some r)
    (ht : s.takes r = true) : ∃ t, exec c s = .next t ∧ s.Taken r t := by
  obtain ⟨t, hexec, hrequests⟩ := exec_requests hr s
  cases hrequests with
  | untaken h => rcases h with h | h <;> simp_all
  | taken _ htaken => exact ⟨t, hexec, htaken⟩

/-- Settles O4: a record that is not taken leaves its command nothing to do. -/
theorem untakenRequestWaits : Obligations.UntakenRequestWaits := by
  intro c r s hr ht
  obtain ⟨t, hexec, hrequests⟩ := exec_requests hr s
  cases hrequests with
  | untaken _ => exact hexec
  | taken h _ => rw [ht] at h; cases h

/-- Settles O3, by what the taking of the record comes to. -/
theorem takenRequestIsAnsweredOnce : Obligations.TakenRequestIsAnsweredOnce := by
  intro c r s hwf hr ht
  obtain ⟨t, hexec, htaken⟩ := exec_taken hwf hr ht
  cases htaken with
  | unknown hkind =>
    have hnot : ¬ IsDeviceRestart r := fun h => by simp [h.1, requestLength] at hkind
    rw [if_neg (show ¬ (_ ∧ _) from hnot)]
    exact ⟨_, _, hexec, rfl, rfl, by rw [hkind]; rfl⟩
  | wrongLength hkind hl =>
    have hnot : ¬ IsDeviceRestart r := fun h => by simp [h.lengthAgrees] at hl
    rw [if_neg (show ¬ (_ ∧ _) from hnot)]
    exact ⟨_, _, hexec, rfl, rfl, by rw [if_pos hkind]; rfl⟩
  | @answered a hkind _ hnot ha =>
    rw [if_neg (show ¬ (_ ∧ _) from hnot)]
    refine ⟨_, a.body, hexec, ?_, ha.resetRun, ?_⟩
    · exact (congrArg ControlLink.inbound ha.control :)
    · rw [if_pos hkind]
      exact congrArg (· ++ _) ha.replies
  | begun hdevice =>
    rw [if_pos (show _ ∧ _ from hdevice)]
    exact ⟨_, hexec, by rw [beginReset_eq], by rw [beginReset_eq], by rw [beginReset_eq]⟩

/-- Settles O5: of what the taking can come to, a wrong length leaves the one answer. -/
theorem wrongLengthIsAnswered : Obligations.WrongLengthIsAnswered := by
  intro c r s hwf hr ht hkind hl
  obtain ⟨t, hexec, htaken⟩ := exec_taken hwf hr ht
  cases htaken with
  | unknown h => rw [h] at hkind; cases hkind
  | wrongLength _ _ => exact hexec
  | answered _ h _ _ => rw [hl] at h; cases h
  | begun hdevice => rw [hdevice.lengthAgrees] at hl; cases hl

/-- The answer that enters the reply queue is the one that the queue then ends in. -/
theorem reply_eq_of_replies_eq {xs : List Record} {a b : Record} (h : xs ++ [a] = xs ++ [b]) : a = b :=
  List.singleton_inj.mp (List.append_cancel_left h)

/-- Settles O6: a refusal is answered from the state of the taking alone, and what is answered OK is no refusal. -/
theorem refusedRequestChangesNothing : Obligations.RefusedRequestChangesNothing := by
  intro c r reply s t hwf hr ht hexec hreplies hcode horder
  obtain ⟨u, hu, htaken⟩ := exec_taken hwf hr ht
  cases hu.symm.trans hexec
  cases htaken with
  | unknown _ => rw [reply_eq_of_replies_eq hreplies]
  | wrongLength _ _ => rw [reply_eq_of_replies_eq hreplies]
  | answered _ _ _ ha =>
    have hentered := reply_eq_of_replies_eq
      ((congrArg (· ++ _) ha.replies).symm.trans hreplies)
    subst hentered
    cases ha with
    | refused fields _ => exact removeOldest_reply s _
    | outOfOrder hkind _ => exact absurd ⟨hkind, rfl⟩ horder
    | done fields _ => exact absurd rfl hcode
  | begun _ =>
    rw [beginReset_eq] at hreplies
    exact absurd hreplies (by simp)

/-- The kinds of the table of requests in 12.3 (R183). -/
theorem requestLength_isSome_iff (kind : Byte) :
    (requestLength kind).isSome = true ↔ 1 ≤ kind.toNat ∧ kind.toNat ≤ 0x17 ∨ kind = 0x20 := by
  revert kind; decide +kernel

/-- Settles O7: a kind that the table does not hold is no request's. -/
theorem unknownKindIsAnswered : Obligations.UnknownKindIsAnswered := by
  intro kind q s hrange hsample ht
  have hknown : ¬ (requestLength kind).isSome = true := by
    rw [requestLength_isSome_iff]
    exact not_or.mpr ⟨hrange, hsample⟩
  have hnone : (requestLength kind).isNone = true := by simpa using hknown
  exact congrArg Host.Outcome.next (takeUnknown_of_takes ht hnone)

end Sys2Proof.Machine

/-! PROOFS. What a packet of the pixel input port keeps: a property of the state that a few updates keep is kept by the planning of
a band, by the emission of a row, by the close and the abort of a frame, and so by every packet. -/

namespace Sys2Proof.Machine

/-! ### The updates of a packet -/

/-- The saturation count of the frame in progress is within 16 bits (R120). -/
def PixelPath.CountOk (x : PixelPath) : Prop := ∀ f ∈ x.frame, f.report.saturation ≤ 65535

/-- A property of the state that each update of which a packet is made keeps: those of the pixel path, the output port, the planner
and the watches, a fault report, an apply, a lens evaluation, a capture, the hand-over of the report of the frame in progress, the
STREAM flag, and the announcement to the ramps. -/
structure PacketClosed (P : State → Prop) : Prop where
  pixel      : ∀ {t x}, (t.pixel.CountOk → x.CountOk) → P t → P (t.setPixel x)
  outputs    : ∀ {t} (x), P t → P (t.setOutputs x)
  planner    : ∀ {t} (x), P t → P (t.setPlanner x)
  watches    : ∀ {t} (x), P t → P (t.setWatches x)
  faulted    : ∀ {t} (kind frame row), P t → P (t.reportFault kind frame row)
  applied    : ∀ {t}, P t → P t.applyNow
  evaluated  : ∀ {t} (time), P t → P (t.evaluate time)
  captured   : ∀ {t} (m), P t → P (t.takeCapture m)
  handedOver : ∀ {t f}, f ∈ t.pixel.frame → P t → P (t.handOver f.report)
  streamed   : ∀ {t}, P t → P (t.setNotices { t.notices with stream := true })
  announced  : ∀ {t}, P t → P t.announceToRamps

/-- A change of the report that keeps the saturation count within 16 bits keeps it so for the frame in progress. -/
theorem mapReport_countOk {x : PixelPath} {f : FrameReport → FrameReport}
    (hf : ∀ r, r.saturation ≤ 65535 → (f r).saturation ≤ 65535) (h : x.CountOk) : (x.mapReport f).CountOk := by
  intro g hg
  obtain ⟨k, hk, rfl⟩ := Option.map_eq_some_iff.mp hg
  exact hf _ (h k hk)

theorem saturatingAdd_le {n k : Nat} (h : n ≤ 65535) : saturatingAdd Config.countMax n k ≤ 65535 := by
  unfold saturatingAdd
  split
  · assumption
  · exact le_rfl

section Closed

variable {P : State → Prop} (h : PacketClosed P) {s : State} (hs : P s)

include h hs

namespace PacketClosed

theorem pixelOf {x : PixelPath} (hx : x.frame = s.pixel.frame) : P (s.setPixel x) :=
  h.pixel (fun hc f hf => hc f (hx ▸ hf)) hs

theorem noFrame {x : PixelPath} (hx : x.frame = none) : P (s.setPixel x) :=
  h.pixel (fun _ f hf => by rw [hx] at hf; cases hf) hs

omit h in
theorem foldl {α : Type} {op : State → α → State} (hop : ∀ t x, P t → P (op t x)) (xs : List α) : P (xs.foldl op s) :=
  List.foldlRecOn (motive := P) xs op hs fun t ht x _ => hop t x ht

/-! ### The planning of a band and the emission of a row -/

theorem bandApply : P s.bandApply := by
  unfold State.bandApply
  split
  · exact h.applied hs
  · exact hs

theorem makePlan (d : PlanId) (sMax : Nat) : P (s.makePlan d sMax).2 := by
  unfold State.makePlan
  split
  · split
    · exact h.captured _ hs
    · exact hs
  · exact hs

theorem enqueue (p : Plan) : P (s.enqueue p) :=
  h.pixel (mapReport_countOk (x := s.pixel) fun _ => id) (h.planner _ hs)

theorem planBand (c : StreamConfig) (header : FrameHeader) (b : Nat) : P (s.planBand c header b) :=
  h.watches _ (h.enqueue (h.makePlan (h.evaluated _ (h.bandApply hs)) _ _) _)

theorem emitHeader : P s.emitHeader := by
  unfold State.emitHeader
  split
  · split
    · exact hs
    · rename_i f hf _
      refine h.outputs _ (h.pixel (fun hc g hg => ?_) hs)
      obtain rfl := Option.some.inj hg
      exact hc f hf
  · exact hs

theorem emitRow (c : StreamConfig) (y : Nat) : P (s.emitRow c y) :=
  h.planner _ (h.pixel (mapReport_countOk fun _ => saturatingAdd_le) (h.outputs _ (h.emitHeader hs)))

theorem storeRow (c : StreamConfig) (r : Nat) (row : Row) : P (s.storeRow c r row) := h.pixelOf hs rfl

theorem releaseBelow (bound : Nat) : P (s.releaseBelow bound) := h.pixelOf hs rfl

theorem afterStore (c : StreamConfig) (r : Nat) : P (s.afterStore c r) := by
  unfold State.afterStore
  dsimp only
  split
  · exact h.releaseBelow (h.emitRow hs c _) _
  · exact h.releaseBelow hs _

/-! ### The close and the abort of a frame -/

theorem mapReport {f : FrameReport → FrameReport} (hf : ∀ r, (f r).saturation = r.saturation) :
    P (s.setPixel (s.pixel.mapReport f)) :=
  h.pixel (mapReport_countOk fun r hr => (hf r).le.trans hr) hs

theorem shortClose (c : StreamConfig) (f : Frame) : P (s.shortClose c f) := by
  have htruncated := h.mapReport (h.faulted .inputShort (some f.report.frameNumber) (some f.report.rowsReceived) hs)
    (f := fun x => { x with truncated := true }) fun _ => rfl
  exact foldl (foldl htruncated (fun _ b ht => h.planBand ht c f.header b) _)
    (fun _ r ht => h.afterStore (h.storeRow ht c r _) c r) _

theorem emitRemaining (c : StreamConfig) : P (s.emitRemaining c) :=
  foldl hs (fun _ y ht => h.releaseBelow (h.emitRow ht c y) _) _

theorem emitTrailer : P s.emitTrailer := by
  unfold State.emitTrailer
  split
  · exact h.outputs _ hs
  · exact hs

theorem handOverReport : P s.handOverReport := by
  unfold State.handOverReport
  split
  · exact h.handedOver ‹_› hs
  · exact hs

theorem endFrame : P s.endFrame := by
  unfold State.endFrame
  dsimp only
  split
  · exact h.streamed (h.noFrame hs rfl)
  · exact h.noFrame hs rfl

theorem closeFrame : P s.closeFrame := by
  unfold State.closeFrame
  split
  · dsimp only
    refine h.endFrame (h.handOverReport (h.emitTrailer (h.emitRemaining ?_ _)))
    split
    · exact h.shortClose hs _ _
    · exact hs
  · exact hs

theorem closeIfOpen : P s.closeIfOpen := by
  unfold State.closeIfOpen
  split
  · exact h.closeFrame hs
  · exact h.closeFrame hs
  · exact hs

theorem abortOutput : P s.abortOutput := h.emitTrailer (h.mapReport (h.emitHeader hs) fun _ => rfl)

theorem stopStream : P s.stopStream := h.planner _ (h.noFrame hs rfl)

theorem streamRestart : P s.streamRestart := h.watches _ (h.stopStream (h.handOverReport (h.abortOutput hs)))

/-! ### The packets -/

theorem startFrame (header : FrameHeader) : P (s.startFrame header) := by
  have hframe : P (s.setPixel
      { s.pixel with
        stream := .inFrame
        frame := some ⟨header, false, FrameReport.initial header.frameNumber.toNat⟩
        lastFrame := some header.frameNumber.toNat }) :=
    h.pixel (fun _ f hf => by obtain rfl := Option.some.inj hf; exact Nat.zero_le _) hs
  unfold State.startFrame State.announce
  refine h.announced ?_
  split
  · exact h.applied hframe
  · exact hframe

theorem headerArrives (header : FrameHeader) : P (s.headerArrives header) := by
  have hclosed := h.closeIfOpen hs
  unfold State.headerArrives State.judgeHeader
  dsimp only
  split
  · have hjudged := h.pixelOf hclosed (x := { s.closeIfOpen.pixel with skip := false, orphan := false }) rfl
    split
    · exact h.startFrame hjudged header
    · exact h.faulted _ _ _ (h.pixelOf hjudged rfl)
  · exact hclosed

theorem acceptRow (c : StreamConfig) (f : Frame) (row : Row) : P (s.acceptRow c f row) := by
  have hstored := h.storeRow (h.mapReport hs (f := fun x => { x with rowsReceived := f.report.rowsReceived + 1 }) fun _ => rfl)
    c f.report.rowsReceived (fitRow c.width row)
  unfold State.acceptRow
  dsimp only
  split
  · exact h.afterStore (h.planBand hstored _ _ _) _ _
  · exact h.afterStore hstored _ _

theorem rowArrives (row : Row) : P (s.rowArrives row) := by
  unfold State.rowArrives
  split
  · exact hs
  · unfold State.strayRow
    split
    · exact hs
    · exact h.faulted _ _ _ (h.pixelOf hs rfl)
  · split
    · split
      · exact h.acceptRow hs _ _ row
      · unfold State.extraRow
        split
        · exact hs
        · exact h.faulted _ _ _ (h.mapReport hs fun _ => rfl)
    · exact hs

theorem endArrives : P s.endArrives := by
  unfold State.endArrives
  split
  · exact hs
  · exact h.pixelOf hs rfl
  · exact h.closeFrame hs

theorem packet {t : State} (ht : s.Packet t) : P t := by
  cases ht with
  | header header => exact h.headerArrives hs header
  | row row => exact h.rowArrives hs row
  | frameEnd => exact h.endArrives hs

end PacketClosed

end Closed

end Sys2Proof.Machine

/-! PROOFS. The blocks that only requests, packets and resets change: the axis tracks, the slots, the settings stage and the fault
record. First all that a command can do to them; then the invariants of the fault record (R170) and of the tracks (R38). -/

namespace Sys2Proof.Machine

/-! ### All that a command can do to the blocks -/

/-- The blocks that neither link nor arbiter touches: the axis tracks, the slots, the settings stage and the fault record. -/
structure Blocks where
  tracks   : PerAxis Track
  slots    : Eight Slot
  settings : Settings
  faults   : Option FaultEntry

/-- The blocks of a state that neither link nor arbiter touches. -/
def State.blocks (s : State) : Blocks := ⟨s.tracks, s.slots, s.settings, s.faults⟩

theorem tracks_eq_of_blocks_eq {s t : State} (h : t.blocks = s.blocks) : t.tracks = s.tracks := congrArg Blocks.tracks h
theorem slots_eq_of_blocks_eq {s t : State} (h : t.blocks = s.blocks) : t.slots = s.slots := congrArg Blocks.slots h
theorem settings_eq_of_blocks_eq {s t : State} (h : t.blocks = s.blocks) : t.settings = s.settings :=
  congrArg Blocks.settings h
theorem faults_eq_of_blocks_eq {s t : State} (h : t.blocks = s.blocks) : t.faults = s.faults := congrArg Blocks.faults h

/-- The three tracks after a reset (R53). -/
abbrev initialTracks : PerAxis Track := ⟨Track.initial, Track.initial, Track.initial⟩

/-- All that a command can do to the blocks: nothing; what a packet does; what the owner of its request does; and the values of a
WARM or a COLD reset (R176). -/
inductive State.Moves (c : Instr) (s : State) : State → Prop where
  | same {t : State} : t.blocks = s.blocks → Moves c s t
  | packet {t : State} : s.Packet t → Moves c s t
  | deed {r : Record} {u v t : State} : c.record? = some r → lengthAgrees r.kind r.body.length = true →
      u.blocks = s.blocks → u.Deed r v → t.blocks = v.blocks → Moves c s t
  | warm {t : State} : c = .resetEnd ∨ c = .resetLineRelease →
      t.blocks = ⟨initialTracks, warmSlots s.slots, Settings.initial, none⟩ → Moves c s t
  | cold {t : State} : c = .resetEnd ∨ c = .resetLineRelease ∨ c = .powerOn ∨ c = .powerLoss →
      t.blocks = ⟨initialTracks, Eight.all .empty, Settings.initial, none⟩ → Moves c s t

section Blocks

variable (s : State)

theorem beginReset_blocks (run : ResetRun) : (s.beginReset run).blocks = s.blocks := by rw [beginReset_eq]; rfl

theorem lensBytes_blocks (bytes : List Byte) : (s.lensBytes bytes).blocks = s.blocks := by
  have hevent (t : State) (e : Option Record) : (t.lensEvent e).blocks = t.blocks := by
    unfold State.lensEvent
    split <;> rfl
  unfold State.lensBytes
  split
  · exact List.foldlRecOn (motive := fun t : State => t.blocks = s.blocks) _ _ rfl
      fun t ht e _ => (hevent t e).trans ht
  · rfl

theorem controlBytes_blocks (bytes : List Byte) : (s.controlBytes bytes).blocks = s.blocks := by
  unfold State.controlBytes
  split <;> rfl

theorem sendReply_blocks : s.sendReply.blocks = s.blocks := by
  unfold State.sendReply
  split <;> rfl

theorem sendNotice_blocks : s.sendNotice.blocks = s.blocks := by
  have hclear (o : Offer) : (s.clearOffer o).blocks = s.blocks := by cases o <;> rfl
  unfold State.sendNotice
  split
  · exact hclear _
  · rfl

theorem sendEnd_blocks : s.sendEnd.blocks = s.blocks := by
  unfold State.sendEnd
  split <;> rfl

theorem finishReset_blocks (run : ResetRun) :
    (s.finishReset run).blocks = ⟨initialTracks, warmSlots s.slots, Settings.initial, none⟩ ∨
      (s.finishReset run).blocks = ⟨initialTracks, Eight.all .empty, Settings.initial, none⟩ := by
  unfold State.finishReset
  dsimp only
  split
  · exact .inl rfl
  · exact .inr rfl

end Blocks

theorem State.Does.moves {c : Instr} {s t : State} (h : s.Does c t) : s.Moves c t := by
  have finished {u : State} {run : ResetRun} (hc : c = .resetEnd ∨ c = .resetLineRelease) (hu : u.slots = s.slots) :
      s.Moves c (u.finishReset run) := by
    rcases finishReset_blocks u run with hblocks | hblocks
    · exact .warm hc (hu ▸ hblocks)
    · exact .cold (by rcases hc with hc | hc <;> simp [hc]) hblocks
  cases h with
  | idle => exact .same rfl
  | taken hr _ htaken =>
    cases htaken with
    | unknown _ => exact .same rfl
    | wrongLength _ _ => exact .same rfl
    | answered _ hl _ ha =>
      cases ha with
      | refused _ _ => exact .same rfl
      | outOfOrder _ _ => exact .same rfl
      | done _ hdeed => exact .deed (u := s.removeOldest) hr hl rfl hdeed rfl
    | begun _ => exact .same (beginReset_blocks s.removeOldest _)
  | controlBytes bytes => exact .same (controlBytes_blocks s bytes)
  | lensBytes bytes => exact .same (lensBytes_blocks s bytes)
  | packet _ hpacket => exact .packet hpacket
  | sendReply => exact .same (sendReply_blocks s)
  | sendNotice => exact .same (sendNotice_blocks s)
  | sendEnd => exact .same (sendEnd_blocks s)
  | poweredOn hc _ => exact .cold (by simp [hc]) rfl
  | powerLost hc _ => exact .cold (by simp [hc]) rfl
  | @lineAsserted run _ => exact .same (beginReset_blocks s run)
  | lineMoved x => exact .same rfl
  | lineReleased hc _ _ => exact finished (.inr hc) rfl
  | resetEnded hc _ _ => exact finished (.inl hc) rfl

/-- A STREAM restart leaves the blocks alone (R175). -/
theorem streamRestart_blocks (s : State) : s.streamRestart.blocks = s.blocks := by
  have hreport (t : State) : t.handOverReport.blocks = t.blocks := by
    unfold State.handOverReport
    split <;> rfl
  have habort : s.abortOutput.blocks = s.blocks := by rw [abortOutput_eq]; rfl
  exact (hreport s.abortOutput).trans habort

/-! ### The fault record (R170) -/

/-- The fault record still holds the fault `e`, with a following count no lower and within 255. -/
def FaultKept (e : FaultEntry) (faults : Option FaultEntry) : Prop :=
  ∃ n, faults = some { e with following := n } ∧ e.following ≤ n ∧ n ≤ 255

theorem saturatingSucc_followingMax_le {n : Nat} (h : n ≤ 255) : saturatingSucc Config.followingMax n ≤ 255 := by
  unfold saturatingSucc
  split
  · assumption
  · exact h

theorem le_saturatingSucc (max n : Nat) : n ≤ saturatingSucc max n := by
  unfold saturatingSucc
  split <;> omega

/-- A property of the fault record that a fault report keeps, every packet keeps. -/
theorem packetClosed_faults {P : Option FaultEntry → Prop}
    (h : ∀ s : State, ∀ kind frame row, P s.faults → P (s.reportFault kind frame row).faults) :
    PacketClosed fun t => P t.faults where
  pixel _ ht := ht
  outputs _ ht := ht
  planner _ ht := ht
  watches _ ht := ht
  faulted kind frame row ht := h _ kind frame row ht
  applied ht := ht
  evaluated _ ht := ht
  captured m {t} ht := by
    unfold State.takeCapture
    split <;> exact ht
  handedOver _ ht := ht
  streamed ht := ht
  announced ht := ht

theorem reportFault_faultKept {e : FaultEntry} {s : State} (h : FaultKept e s.faults) (kind : FaultKind)
    (frame row : Option Nat) : FaultKept e (s.reportFault kind frame row).faults := by
  obtain ⟨n, hn, hle, hmax⟩ := h
  refine ⟨saturatingSucc Config.followingMax n, ?_, hle.trans (le_saturatingSucc _ n),
    saturatingSucc_followingMax_le hmax⟩
  unfold State.reportFault
  rw [hn]
  rfl

theorem reportFault_faultInv {s : State} (h : s.FaultInv) (kind : FaultKind) (frame row : Option Nat) :
    (s.reportFault kind frame row).FaultInv := by
  unfold State.reportFault
  intro e he
  split at he
  · obtain rfl := Option.some.inj he
    exact Nat.zero_le _
  · rename_i e' he'
    obtain rfl := Option.some.inj he
    exact saturatingSucc_followingMax_le (h e' he')

/-- The command whose record is a FAULT_READ, if it is one of a request of a known kind (R183). -/
theorem faultRead_of_record {c : Instr} {r : Record} (hr : c.record? = some r) (hkind : r.kind = 0x17) :
    c = .faultRead ⟨r.tag, r.body⟩ ∨ ∃ q, c = .unknownKind 0x17 q := by
  have hrecord : c.record?.map Record.kind = some 0x17 := by rw [hr, ← hkind]; rfl
  cases c with
  | faultRead q => cases hr; exact .inl rfl
  | unknownKind kind q => cases hr; exact .inr ⟨q, by rw [show kind = 0x17 from hkind]⟩
  | _ => simp [Instr.record?] at hrecord

/-- A FAULT_READ of the right length whose clear indication is yes has the one byte 1 (R171). -/
theorem body_of_clear {r : Record} (hkind : r.kind = 0x17) (hlength : lengthAgrees r.kind r.body.length = true)
    (hclear : fieldAt r.body 0 1 = 1) : r.body = [1] := by
  have hone : r.body.length = 1 := by
    rw [hkind] at hlength
    exact of_decide_eq_true hlength
  obtain ⟨b, hb⟩ := List.length_eq_one_iff.mp hone
  rw [hb, fieldAt_byte (i := 0) (b := b) rfl] at hclear
  rw [hb, show b = 1 from BitVec.eq_of_toNat_eq hclear]

/-- No record of the kind of FAULT_READ is one of an unknown kind (R188). -/
theorem exec_unknownKind_of_known {kind : Byte} (h : (requestLength kind).isNone = false) (q : Request) (s : State) :
    exec (.unknownKind kind q) s = .next s := by
  have hs : takeUnknown kind q s = s := by simp [takeUnknown, h]
  exact congrArg Host.Outcome.next hs

/-- The one deed that touches the fault record is its clearing (R171). -/
theorem State.Deed.faults {r : Record} {s t : State} (h : s.Deed r t) :
    t.faults = s.faults ∨ r.kind = 0x17 ∧ fieldAt r.body 0 1 = 1 ∧ t.faults = none := by
  cases h with
  | faultsCleared hkind hclear => exact .inr ⟨hkind, hclear, rfl⟩
  | streamRestarted => exact .inl (faults_eq_of_blocks_eq (streamRestart_blocks s))
  | _ => exact .inl rfl

theorem faultInv_of_does {c : Instr} {s t : State} (hs : s.FaultInv) (h : s.Does c t) : t.FaultInv := by
  have empty {t : State} (ht : t.faults = none) : t.FaultInv := fun e he => by rw [ht] at he; cases he
  have same {u t : State} (hu : u.FaultInv) (ht : t.faults = u.faults) : t.FaultInv := fun e he => hu e (ht ▸ he)
  cases h.moves with
  | same hblocks => exact same hs (faults_eq_of_blocks_eq hblocks)
  | packet hpacket =>
    exact (packetClosed_faults (P := fun x => ∀ e ∈ x, e.following ≤ 255) fun _ kind frame row hu =>
      reportFault_faultInv hu kind frame row).packet hs hpacket
  | deed _ _ hu hdeed ht =>
    rcases hdeed.faults with hv | ⟨-, -, hv⟩
    · exact same hs (((faults_eq_of_blocks_eq ht).trans hv).trans (faults_eq_of_blocks_eq hu))
    · exact empty ((faults_eq_of_blocks_eq ht).trans hv)
  | warm _ hblocks => exact empty (congrArg Blocks.faults hblocks)
  | cold _ hblocks => exact empty (congrArg Blocks.faults hblocks)

/-- Settles O41: a packet can only add to the following count, and of the requests only FAULT_READ with clear empties the record. -/
theorem firstFaultIsKept : Obligations.FirstFaultIsKept := by
  refine ⟨fun c s t e hs he hexec hread hend hrelease hon hloss => ?_, fun s t hs hstep =>
    step_keeps (P := State.FaultInv) (fun _ _ hs => hs) (fun _ _ _ => faultInv_of_does) hs hstep⟩
  have hkept : FaultKept e s.faults := ⟨e.following, he, le_rfl, hs e he⟩
  cases (does_of_exec hexec).moves with
  | same hblocks => rw [faults_eq_of_blocks_eq hblocks]; exact hkept
  | packet hpacket =>
    exact (packetClosed_faults (P := FaultKept e) fun _ kind frame row hu =>
      reportFault_faultKept hu kind frame row).packet hkept hpacket
  | deed hr hlength hu hdeed ht =>
    rcases hdeed.faults with hv | ⟨hkind, hclear, -⟩
    · rw [faults_eq_of_blocks_eq ht, hv, faults_eq_of_blocks_eq hu]
      exact hkept
    · rcases faultRead_of_record hr hkind with hc | ⟨q, rfl⟩
      · exact absurd (body_of_clear hkind hlength hclear) (hread _ hc)
      · cases (exec_unknownKind_of_known rfl q s).symm.trans hexec
        exact hkept
  | warm hc _ => rcases hc with hc | hc <;> contradiction
  | cold hc _ => rcases hc with hc | hc | hc | hc <;> contradiction

/-! ### The axis tracks (R38) -/

theorem freshValue_le {xs : List (Nat × Nat)} (h : ∀ x ∈ xs, x.2 ≤ 65535) (t : Nat) : freshValue t xs ≤ 65535 := by
  induction xs using freshValue.induct t with
  | case1 => exact Nat.zero_le _
  | case2 _ v => exact h _ (List.mem_singleton_self _)
  | case3 ta va tb vb rest ht =>
    rw [freshValue, if_pos ht]
    exact h (ta, va) (by simp)
  | case4 ta va tb vb rest ht ht' =>
    rw [freshValue, if_neg ht, if_pos ht']
    exact (interpolate_within (lo := 0) (hi := 65535) ⟨Nat.zero_le _, h (ta, va) (by simp)⟩
      ⟨Nat.zero_le _, h (tb, vb) (by simp)⟩ (by omega) (by omega)).2
  | case5 ta va tb vb rest ht ht' ih =>
    rw [freshValue, if_neg ht, if_neg ht']
    exact ih fun x hx => h x (List.mem_cons_of_mem _ hx)

theorem coastValue_le {xs : List (Nat × Nat)} (h : ∀ x ∈ xs, x.2 ≤ 65535) (t : Nat) : coastValue t xs ≤ 65535 := by
  unfold coastValue
  split
  · dsimp only
    split
    · exact Nat.zero_le _
    · split
      · exact le_rfl
      · omega
  · exact h _ (List.mem_singleton_self _)
  · exact Nat.zero_le _

/-- A source that is not LOST is FRESH, COASTING or HOLDING, and its value is a lens code (R41 to R43). -/
theorem judgeSource_ok {coast lost t : Nat} {xs : List (Nat × Nat)} (h : ∀ x ∈ xs, x.2 ≤ 65535) {r : AxisState × Nat}
    (hr : judgeSource coast lost t xs = some r) : (r.1 ≠ .lost ∧ r.1 ≠ .none) ∧ r.2 ≤ 65535 := by
  obtain ⟨tn, vn, hlast, hfresh, hcoast, hhold⟩ := judgeSource_of_some hr
  rcases Nat.lt_or_ge tn t with hlate | hearly
  · rcases Nat.lt_or_ge (tn + coast) t with hlater | hsoon
    · rw [hhold hlater]
      exact ⟨⟨nofun, nofun⟩, h (tn, vn) (List.mem_of_getLast? hlast)⟩
    · rw [hcoast hlate hsoon]
      exact ⟨⟨nofun, nofun⟩, coastValue_le (fun x hx => h x (List.mem_reverse.mp hx)) t⟩
  · rw [hfresh hearly]
    exact ⟨⟨nofun, nofun⟩, freshValue_le h t⟩

theorem carrying_le {history : List Sample} (h : HistoryOk history) (a : Axis) : ∀ x ∈ carrying a history, x.2 ≤ 65535 := by
  obtain ⟨-, -, hcodes⟩ := h
  rintro ⟨time, code⟩ hx
  obtain ⟨y, hy, -, hcode⟩ := mem_carrying.mp hx
  obtain ⟨hfocus, hzoom, hiris⟩ := hcodes y hy
  cases a with
  | focus => exact hfocus code hcode
  | zoom => exact hzoom code hcode
  | iris => exact hiris code hcode

theorem choice_ok {s : State} (h : s.HistoryInv) {t : Nat} {a : Axis} {k : Source} {r : AxisState × Nat}
    (hr : s.choice t a = some (k, r)) : (r.1 ≠ .lost ∧ r.1 ≠ .none) ∧ r.2 ≤ 65535 := by
  obtain ⟨-, -, -, hjudged, -⟩ := choice_eq_some_iff.mp hr
  exact judgeSource_ok (carrying_le (historyInv_iff.mp h k) a) hjudged

theorem trackOk_write {x : Track} (h : TrackOk x) {choice : Option (Source × AxisState × Nat)}
    (hchoice : ∀ k r, choice = some (k, r) → (r.1 ≠ .lost ∧ r.1 ≠ .none) ∧ r.2 ≤ 65535) : TrackOk (x.write choice) := by
  obtain ⟨-, -, hcode⟩ := h
  match choice with
  | some (k, r) =>
    obtain ⟨⟨hlost, hnone⟩, hle⟩ := hchoice k r rfl
    obtain ⟨hstate, hheld⟩ := Track.write_some x k r
    unfold TrackOk CodeOk
    rw [hstate, hheld, Track.write_source]
    simp [hlost, hnone, hle]
  | none =>
    obtain ⟨hheld, hstate⟩ := Track.write_none x
    unfold TrackOk
    rw [hheld, hstate, Track.write_source]
    refine ⟨?_, ?_, hcode⟩ <;> split <;> simp_all

theorem trackInv_iff {s : State} : s.TrackInv ↔ ∀ a, TrackOk (s.tracks.get a) :=
  ⟨fun ⟨hfocus, hzoom, hiris⟩ a => by cases a <;> assumption, fun h => ⟨h .focus, h .zoom, h .iris⟩⟩

theorem evaluate_trackInv {s : State} (hhistory : s.HistoryInv) (h : s.TrackInv) (t : Nat) : (s.evaluate t).TrackInv := by
  rw [trackInv_iff] at h ⊢
  intro a
  rw [evaluate_tracks_get]
  exact trackOk_write (h a) fun k r => choice_ok hhistory

/-- What a packet reads of the histories and writes of the tracks keeps both in order. -/
theorem packetClosed_tracks : PacketClosed fun t => t.HistoryInv ∧ t.TrackInv where
  pixel _ ht := ht
  outputs _ ht := ht
  planner _ ht := ht
  watches _ ht := ht
  faulted kind frame row {t} := by
    rintro ht
    unfold State.reportFault
    split <;> exact ht
  applied ht := ht
  evaluated {_} time := fun ⟨hhistory, ht⟩ => ⟨hhistory, evaluate_trackInv hhistory ht time⟩
  captured m {t} ht := by
    unfold State.takeCapture
    split <;> exact ht
  handedOver _ ht := ht
  streamed ht := ht
  announced ht := ht

theorem trackInv_of_tracks_eq {s t : State} (hs : s.TrackInv) (h : t.tracks = s.tracks) : t.TrackInv := by
  unfold State.TrackInv
  rw [h]
  exact hs

theorem trackInv_initial {t : State} (h : t.tracks = initialTracks) : t.TrackInv := by
  unfold State.TrackInv
  rw [h]
  simp [Track.initial, TrackOk, CodeOk]

theorem State.Deed.tracks {r : Record} {s t : State} (h : s.Deed r t) : t.tracks = s.tracks := by
  cases h with
  | streamRestarted => exact tracks_eq_of_blocks_eq (streamRestart_blocks s)
  | _ => rfl

/-- A step idles, or does what the command at the front of the queue can do. -/
theorem step_does {s t : State} (h : step s = .next t) : t = s ∨ ∃ c rest, (s.setPending rest).Does c t := by
  unfold step at h
  split at h
  · cases h; exact .inl rfl
  · exact .inr ⟨_, _, does_of_exec h⟩

/-- Settles O53: only an evaluation writes a track, and what it finds of a source in use is a state outside LOST and NONE and a lens
code. -/
theorem trackInvariantKept : Obligations.TrackInvariantKept := by
  intro s t hhistory hs hstep
  rcases step_does hstep with rfl | ⟨c, rest, hdoes⟩
  · exact hs
  · cases hdoes.moves with
    | same hblocks => exact trackInv_of_tracks_eq hs (tracks_eq_of_blocks_eq hblocks)
    | packet hpacket => exact (packetClosed_tracks.packet (s := s.setPending rest) ⟨hhistory, hs⟩ hpacket).2
    | deed _ _ hu hdeed ht =>
      exact trackInv_of_tracks_eq hs
        (((tracks_eq_of_blocks_eq ht).trans hdeed.tracks).trans (tracks_eq_of_blocks_eq hu))
    | warm _ hblocks => exact trackInv_initial (congrArg Blocks.tracks hblocks)
    | cold _ hblocks => exact trackInv_initial (congrArg Blocks.tracks hblocks)

end Sys2Proof.Machine

/-! PROOFS. The profile store stays consistent (R3, R16, R18) and its contents good (R1, R10 to R14). First what a change of the slot
in use makes of each slot (R17); then the pairs, the names that PROFILE gives, and the contents. -/

namespace Sys2Proof.Machine

/-! ### The change of the slot in use (R17) -/

/-- The slots after an apply changes PROFILE, each by what the old and the new value say of it. -/
theorem changeUse_get (slots : Eight Slot) (old new : Option (Fin 8)) (i : Fin 8) :
    (changeUse slots old new).get i =
      if old = new then slots.get i
      else if old = some i then (slots.get i).leaveUse
      else if new = some i then (slots.get i).enterUse
      else slots.get i := by
  unfold changeUse
  by_cases hsame : old = new
  · rw [if_pos hsame, if_pos hsame]
  · rw [if_neg hsame, if_neg hsame]
    cases old with
    | none =>
      cases new with
      | none => exact absurd rfl hsame
      | some j => by_cases hj : i = j <;> simp [Eight.get_set, hj, eq_comm]
    | some k =>
      cases new with
      | none => by_cases hk : i = k <;> simp [Eight.get_set, hk, eq_comm]
      | some j =>
        have hkj : k ≠ j := fun h => hsame (congrArg some h)
        by_cases hk : i = k
        · simp [hk, Eight.get_set, hkj]
        · by_cases hj : i = j <;> simp [Eight.get_set, hk, hj, eq_comm, hkj]

/-! ### Pairs (R3) -/

/-- What a slot says of its pair: whether it heads a pair profile, and the slot that a PARTNER slot names. -/
def Slot.role : Slot → Bool × Option (Fin 8)
  | .empty => (false, none)
  | .partner j => (false, some j)
  | .live _ p => (p.pair, none)

theorem isPairHead_eq_role (x : Slot) : x.isPairHead = x.role.1 := by cases x <;> rfl

theorem partner_iff_role {x : Slot} {j : Fin 8} : x = .partner j ↔ x.role.2 = some j := by
  cases x <;> simp [Slot.role]

/-- The pairs of a store are pairs: a PARTNER slot names its partner, which heads a pair, and the partner of a slot that heads a
pair is PARTNER (R3). -/
def Paired (slots : Eight Slot) : Prop :=
  (∀ i j, slots.get i = .partner j → j = partnerOf i ∧ (slots.get j).isPairHead = true) ∧
  ∀ i, (slots.get i).isPairHead = true → slots.get (partnerOf i) = .partner i

theorem Paired.of_role {slots slots' : Eight Slot} (h : Paired slots)
    (hrole : ∀ i, (slots'.get i).role = (slots.get i).role) : Paired slots' := by
  simp only [Paired, partner_iff_role, isPairHead_eq_role, hrole] at h ⊢
  exact h

/-- A slot takes another value of the same role. -/
theorem Paired.set {slots : Eight Slot} (h : Paired slots) {i : Fin 8} {x : Slot} (hx : x.role = (slots.get i).role) :
    Paired (slots.set i x) :=
  h.of_role fun j => by
    rw [Eight.get_set]
    split
    · rename_i hj; rw [hx, hj]
    · rfl

theorem leaveUse_role (x : Slot) : x.leaveUse.role = x.role := by
  unfold Slot.leaveUse
  split <;> rfl

theorem enterUse_role (x : Slot) : x.enterUse.role = x.role := by
  unfold Slot.enterUse
  split <;> rfl

theorem Paired.changeUse {slots : Eight Slot} (h : Paired slots) (old new : Option (Fin 8)) :
    Paired (changeUse slots old new) :=
  h.of_role fun i => by
    rw [changeUse_get]
    split
    · rfl
    · split
      · exact leaveUse_role _
      · split
        · exact enterUse_role _
        · rfl

theorem paired_empty : Paired (Eight.all .empty) :=
  ⟨fun _ _ hj => (by rw [Eight.get_all] at hj; cases hj), fun _ hi => (by rw [Eight.get_all] at hi; cases hi)⟩

theorem openSlot_get (slots : Eight Slot) (i j : Fin 8) (p : Profile) :
    (openSlot slots i p).get j =
      if p.pair = true ∧ j = partnerOf i then .partner i else if j = i then .live .opened p else slots.get j := by
  unfold openSlot
  cases hp : p.pair <;> simp [Eight.get_set]

theorem emptySlot_get (slots : Eight Slot) (i j : Fin 8) (pair : Bool) :
    (emptySlot slots i pair).get j = if j = i ∨ pair = true ∧ j = partnerOf i then .empty else slots.get j := by
  unfold emptySlot
  cases pair
  · simp [Eight.get_set]
  · simp only [if_true, Eight.get_set, true_and]
    by_cases hi : j = i <;> by_cases hp : j = partnerOf i <;> simp [hi, hp]

theorem partnerOf_inj {i j : Fin 8} (h : partnerOf i = partnerOf j) : i = j := by
  rw [← partnerOf_partnerOf i, h, partnerOf_partnerOf]

theorem Paired.openSlot {slots : Eight Slot} (h : Paired slots) {i : Fin 8} {p : Profile} (hempty : slots.get i = .empty)
    (hpartner : p.pair = true → slots.get (partnerOf i) = .empty) : Paired (openSlot slots i p) := by
  obtain ⟨hnames, hheads⟩ := h
  refine ⟨fun j k hj => ?_, fun j hj => ?_⟩
  · rw [openSlot_get] at hj
    split at hj
    · rename_i hpair
      obtain rfl := Slot.partner.inj hj
      refine ⟨by rw [hpair.2, partnerOf_partnerOf], ?_⟩
      rw [openSlot_get, if_neg fun hi => (partnerOf_ne i) hi.2.symm, if_pos rfl]
      exact hpair.1
    · split at hj
      · cases hj
      · obtain ⟨hk, hhead⟩ := hnames j k hj
        refine ⟨hk, ?_⟩
        rw [openSlot_get, if_neg, if_neg]
        · exact hhead
        · rintro rfl
          rw [hempty] at hhead
          cases hhead
        · rintro ⟨hpair, rfl⟩
          rw [hpartner hpair] at hhead
          cases hhead
  · rw [openSlot_get] at hj
    split at hj
    · cases hj
    · rename_i hother
      split at hj
      · rename_i hji
        rw [openSlot_get, hji, if_pos ⟨hj, rfl⟩]
      · rename_i hji
        have hpartnerOf := hheads j hj
        rw [openSlot_get, if_neg fun hp => hji (partnerOf_inj hp.2), if_neg]
        · exact hpartnerOf
        · intro hi
          rw [hi, hempty] at hpartnerOf
          cases hpartnerOf

theorem Paired.emptySlot {slots : Eight Slot} (h : Paired slots) {i : Fin 8} {stage : Stage} {p : Profile}
    (hlive : slots.get i = .live stage p) : Paired (emptySlot slots i p.pair) := by
  obtain ⟨hnames, hheads⟩ := h
  refine ⟨fun j k hj => ?_, fun j hj => ?_⟩
  · rw [emptySlot_get] at hj
    split at hj
    · cases hj
    · rename_i hkept
      obtain ⟨hk, hhead⟩ := hnames j k hj
      refine ⟨hk, ?_⟩
      rw [emptySlot_get, if_neg]
      · exact hhead
      · rintro (hi | ⟨-, hi⟩)
        · rw [hi, hlive] at hhead
          exact hkept (.inr ⟨hhead, by rw [← hi, hk, partnerOf_partnerOf]⟩)
        · exact hkept (.inl (partnerOf_inj (hk.symm.trans hi)))
  · rw [emptySlot_get] at hj
    split at hj
    · cases hj
    · rename_i hkept
      have hpartnerOf := hheads j hj
      rw [emptySlot_get, if_neg]
      · exact hpartnerOf
      · rintro (hi | ⟨-, hi⟩)
        · rw [hi, hlive] at hpartnerOf
          cases hpartnerOf
        · exact hkept (.inl (partnerOf_inj hi))

theorem warmSlots_get (slots : Eight Slot) (i : Fin 8) : (warmSlots slots).get i = warmSlot slots (slots.get i) :=
  Eight.get_map _ _ i

/-- A slot that heads a pair still does after a WARM restart, unless it was OPEN (R21). -/
theorem warmSlot_isPairHead (slots : Eight Slot) (x : Slot) :
    (warmSlot slots x).isPairHead = (x.isPairHead && !x.isOpened) := by
  match x with
  | .empty => rfl
  | .partner j => unfold warmSlot; dsimp only; split <;> rfl
  | .live .opened p => simp [warmSlot, Slot.isPairHead, Slot.isOpened]
  | .live .ready p => simp [warmSlot, Slot.leaveUse, Slot.isPairHead, Slot.isOpened]
  | .live .inUse p => simp [warmSlot, Slot.leaveUse, Slot.isPairHead, Slot.isOpened]

theorem warmSlot_eq_partner {slots : Eight Slot} {x : Slot} {j : Fin 8} :
    warmSlot slots x = .partner j ↔ x = .partner j ∧ (slots.get j).isOpened = false := by
  match x with
  | .empty => simp [warmSlot, Slot.leaveUse]
  | .partner k =>
    unfold warmSlot
    dsimp only
    split
    · rename_i hopened
      refine ⟨nofun, fun ⟨hk, hj⟩ => ?_⟩
      rw [Slot.partner.inj hk, hj] at hopened
      cases hopened
    · rename_i hopened
      refine ⟨fun hk => ⟨hk, ?_⟩, And.left⟩
      rw [← Slot.partner.inj hk]
      exact Bool.eq_false_iff.mpr hopened
  | .live .opened p => simp [warmSlot]
  | .live .ready p => simp [warmSlot, Slot.leaveUse]
  | .live .inUse p => simp [warmSlot, Slot.leaveUse]

theorem Paired.warmSlots {slots : Eight Slot} (h : Paired slots) : Paired (warmSlots slots) := by
  obtain ⟨hnames, hheads⟩ := h
  refine ⟨fun i j hj => ?_, fun i hi => ?_⟩
  · rw [warmSlots_get, warmSlot_eq_partner] at hj
    obtain ⟨hpartner, hopened⟩ := hj
    obtain ⟨hj, hhead⟩ := hnames i j hpartner
    rw [warmSlots_get, warmSlot_isPairHead, hhead, hopened]
    exact ⟨hj, rfl⟩
  · rw [warmSlots_get, warmSlot_isPairHead, Bool.and_eq_true, Bool.not_eq_true'] at hi
    rw [warmSlots_get, warmSlot_eq_partner]
    exact ⟨hheads i hi.1, hi.2⟩

/-! ### The names that PROFILE gives (R16, R18) -/

/-- A slot is IN_USE exactly when the active PROFILE names it; the slot that the staged PROFILE names is READY or IN_USE while the
changed flag is set, and the copies agree while it is clear (R16, R18, R129, R136). -/
def Named (slots : Eight Slot) (x : Settings) : Prop :=
  (∀ i, (slots.get i).isInUse = true ↔ x.active.profile = some i) ∧
  (x.changed.profile = true → ∀ i, x.staged.profile = some i → (slots.get i).usable = true) ∧
  (x.changed.profile = false → x.staged.profile = x.active.profile)

theorem storeInv_iff {s : State} : s.StoreInv ↔ Named s.slots s.settings ∧ Paired s.slots :=
  ⟨fun ⟨hactive, hstaged, hcopies, hnames, hheads⟩ => ⟨⟨hactive, hstaged, hcopies⟩, hnames, hheads⟩,
    fun ⟨⟨hactive, hstaged, hcopies⟩, hnames, hheads⟩ => ⟨hactive, hstaged, hcopies, hnames, hheads⟩⟩

/-- Slots that are IN_USE where they were, and usable where they were and are held. -/
theorem Named.of_slots {slots slots' : Eight Slot} {x : Settings} (h : Named slots x)
    (huse : ∀ i, (slots'.get i).isInUse = (slots.get i).isInUse)
    (husable : ∀ i, x.holds i = true → (slots.get i).usable = true → (slots'.get i).usable = true) : Named slots' x := by
  obtain ⟨hactive, hstaged, hcopies⟩ := h
  exact ⟨fun i => huse i ▸ hactive i,
    fun hchanged i hi => husable i (Settings.holds_iff.mpr ⟨hchanged, hi⟩) (hstaged hchanged i hi), hcopies⟩

/-- One slot that is not IN_USE takes another value, not IN_USE either. -/
theorem Named.set {slots : Eight Slot} {x : Settings} (h : Named slots x) {i : Fin 8} {y : Slot}
    (hbefore : (slots.get i).isInUse = false) (hafter : y.isInUse = false)
    (husable : x.holds i = true → (slots.get i).usable = true → y.usable = true) : Named (slots.set i y) x := by
  refine h.of_slots (fun j => ?_) fun j hj husablej => ?_
  · rw [Eight.get_set]
    split
    · rename_i hji; rw [hji, hbefore, hafter]
    · rfl
  · rw [Eight.get_set]
    split
    · rename_i hji; exact husable (hji ▸ hj) (hji ▸ husablej)
    · exact husablej

/-- With no PROFILE named, no slot is IN_USE. -/
theorem named_of_none {slots : Eight Slot} {x : Settings} (huse : ∀ i, (slots.get i).isInUse = false)
    (hactive : x.active.profile = none) (hstaged : x.staged.profile = none) : Named slots x :=
  ⟨fun i => by rw [huse i, hactive]; simp, fun _ i hi => (by rw [hstaged] at hi; cases hi),
    fun _ => by rw [hactive, hstaged]⟩

theorem Named.openSlot {slots : Eight Slot} {x : Settings} (h : Named slots x) {i : Fin 8} {p : Profile}
    (hempty : slots.get i = .empty) (hpartner : p.pair = true → slots.get (partnerOf i) = .empty) :
    Named (openSlot slots i p) x := by
  have hopened : Named (slots.set i (.live .opened p)) x := h.set (by rw [hempty]; rfl) rfl (by rw [hempty]; nofun)
  unfold Machine.openSlot
  dsimp only
  split
  · rename_i hpair
    have hget : (slots.set i (.live .opened p)).get (partnerOf i) = .empty := by
      rw [Eight.get_set_ne _ _ (partnerOf_ne i), hpartner hpair]
    exact hopened.set (by rw [hget]; rfl) rfl (by rw [hget]; nofun)
  · exact hopened

theorem Named.emptySlot {slots : Eight Slot} {x : Settings} (h : Named slots x) (hpaired : Paired slots) {i : Fin 8}
    {stage : Stage} {p : Profile} (hlive : slots.get i = .live stage p)
    (hstage : stage = .opened ∨ stage = .ready ∧ x.holds i = false) : Named (emptySlot slots i p.pair) x := by
  have hemptied : Named (slots.set i .empty) x := by
    rcases hstage with rfl | ⟨rfl, hfree⟩
    · exact h.set (by rw [hlive]; rfl) rfl (by rw [hlive]; nofun)
    · exact h.set (by rw [hlive]; rfl) rfl (by rw [hfree]; nofun)
  unfold Machine.emptySlot
  dsimp only
  split
  · rename_i hpair
    have hget : (slots.set i .empty).get (partnerOf i) = .partner i := by
      rw [Eight.get_set_ne _ _ (partnerOf_ne i)]
      exact hpaired.2 i (by rw [hlive]; exact hpair)
    exact hemptied.set (by rw [hget]; rfl) rfl (by rw [hget]; nofun)
  · exact hemptied

theorem leaveUse_isInUse (x : Slot) : x.leaveUse.isInUse = false := by
  match x with
  | .empty | .partner _ | .live .opened _ | .live .ready _ | .live .inUse _ => rfl

/-- A usable slot enters use (R17). -/
theorem enterUse_isInUse {x : Slot} (h : x.usable = true) : x.enterUse.isInUse = true := by
  match x with
  | .live .ready _ | .live .inUse _ => rfl

/-- An apply that takes effect moves the name and the slot together (R17, R131). -/
theorem Named.applied {slots : Eight Slot} {x : Settings} (h : Named slots x) :
    Named (if x.changed.profile then changeUse slots x.active.profile x.staged.profile else slots) x.applied := by
  obtain ⟨hactive, hstaged, hcopies⟩ := h
  cases hchanged : x.changed.profile with
  | false =>
    have hmerged : x.applied.active.profile = x.active.profile := by simp [Settings.applied, Settings.merged, hchanged]
    exact ⟨fun i => hmerged ▸ hactive i, nofun, fun _ => (hcopies hchanged).trans hmerged.symm⟩
  | true =>
    have hmerged : x.applied.active.profile = x.staged.profile := by simp [Settings.applied, Settings.merged, hchanged]
    refine ⟨fun i => ?_, nofun, fun _ => hmerged.symm⟩
    rw [if_pos rfl, changeUse_get, hmerged]
    split
    · rename_i hsame; rw [hactive i, hsame]
    · rename_i hdiffer
      split
      · rename_i hold
        rw [leaveUse_isInUse, ← hold]
        exact ⟨nofun, fun hnew => absurd hnew.symm hdiffer⟩
      · rename_i hold
        split
        · rename_i hnew
          exact ⟨fun _ => hnew, fun _ => enterUse_isInUse (hstaged hchanged i hnew)⟩
        · rename_i hnew
          rw [hactive i]
          exact ⟨fun h => absurd h hold, fun h => absurd h hnew⟩

theorem Named.write {slots : Eight Slot} {x : Settings} (h : Named slots x) {v : Setting} (hv : slotGood slots v = true) :
    Named slots (x.write v) := by
  obtain ⟨hactive, hstaged, hcopies⟩ := h
  cases v with
  | profile y =>
    refine ⟨hactive, fun _ i hi => ?_, nofun⟩
    rw [show y = some i from hi] at hv
    exact hv
  | _ => exact ⟨hactive, hstaged, hcopies⟩

theorem warmSlot_isInUse (slots : Eight Slot) (x : Slot) : (warmSlot slots x).isInUse = false := by
  match x with
  | .partner j => unfold warmSlot; dsimp only; split <;> rfl
  | .empty | .live .opened _ | .live .ready _ | .live .inUse _ => rfl

/-! ### Every step -/

theorem applyNow_storeInv {s : State} (h : s.StoreInv) : s.applyNow.StoreInv := by
  rw [storeInv_iff] at h ⊢
  obtain ⟨hnamed, hpaired⟩ := h
  refine ⟨hnamed.applied, ?_⟩
  rw [applyNow_eq]
  dsimp only
  split
  · exact hpaired.changeUse _ _
  · exact hpaired

theorem capture_named {slots : Eight Slot} {x : Settings} (h : Named slots x) (m : Nat) : Named slots (x.capture m) := by
  obtain ⟨hactive, hstaged, hcopies⟩ := h
  refine ⟨hactive, fun hchanged i hi => hstaged hchanged i ?_, fun hchanged => (?_ : _ = x.active.profile)⟩
  · unfold Settings.capture at hi
    dsimp only at hi
    split at hi <;> exact hi
  · rw [← hcopies hchanged]
    unfold Settings.capture
    dsimp only
    split <;> rfl

theorem packetClosed_storeInv : PacketClosed State.StoreInv where
  pixel _ ht := ht
  outputs _ ht := ht
  planner _ ht := ht
  watches _ ht := ht
  faulted {t} kind frame row ht := by
    unfold State.reportFault
    split <;> exact ht
  applied ht := applyNow_storeInv ht
  evaluated _ ht := ht
  captured {t} m ht := by
    unfold State.takeCapture
    split
    · rw [storeInv_iff] at ht ⊢
      exact ⟨capture_named ht.1 m, ht.2⟩
    · exact ht
  handedOver _ ht := ht
  streamed ht := ht
  announced ht := ht

theorem storeInv_of_blocks_eq {s t : State} (hs : s.StoreInv) (h : t.blocks = s.blocks) : t.StoreInv := by
  rw [storeInv_iff] at hs ⊢
  rw [slots_eq_of_blocks_eq h, settings_eq_of_blocks_eq h]
  exact hs

/-- The owner of a request keeps the store consistent. -/
theorem State.Deed.storeInv {r : Record} {s t : State} (h : s.Deed r t) (hs : s.StoreInv) : t.StoreInv := by
  obtain ⟨hnamed, hpaired⟩ := storeInv_iff.mp hs
  cases h with
  | opened infinity label _ hempty hpartner =>
    exact storeInv_iff.mpr ⟨hnamed.openSlot hempty hpartner, hpaired.openSlot hempty hpartner⟩
  | written hslot _ _ =>
    exact storeInv_iff.mpr ⟨hnamed.set (by rw [hslot]; rfl) rfl (by rw [hslot]; nofun), hpaired.set (by rw [hslot]; rfl)⟩
  | closed hslot _ _ =>
    exact storeInv_iff.mpr ⟨hnamed.set (by rw [hslot]; rfl) rfl fun _ _ => rfl, hpaired.set (by rw [hslot]; rfl)⟩
  | discarded hslot hstage =>
    exact storeInv_iff.mpr ⟨hnamed.emptySlot hpaired hslot hstage, hpaired.emptySlot hslot⟩
  | staged _ hslot => exact storeInv_iff.mpr ⟨hnamed.write hslot, hpaired⟩
  | applied => exact applyNow_storeInv hs
  | cancelled => exact storeInv_iff.mpr ⟨⟨hnamed.1, nofun, fun _ => rfl⟩, hpaired⟩
  | streamRestarted => exact storeInv_of_blocks_eq hs (streamRestart_blocks s)
  | _ => exact hs

theorem storeInv_of_does {c : Instr} {s t : State} (hs : s.StoreInv) (h : s.Does c t) : t.StoreInv := by
  cases h.moves with
  | same hblocks => exact storeInv_of_blocks_eq hs hblocks
  | packet hpacket => exact packetClosed_storeInv.packet hs hpacket
  | deed _ _ hu hdeed ht => exact storeInv_of_blocks_eq (hdeed.storeInv (storeInv_of_blocks_eq hs hu)) ht
  | warm _ hblocks =>
    rw [storeInv_iff, show t.slots = warmSlots s.slots from congrArg Blocks.slots hblocks,
      show t.settings = Settings.initial from congrArg Blocks.settings hblocks]
    exact ⟨named_of_none (fun i => by rw [warmSlots_get]; exact warmSlot_isInUse _ _) rfl rfl,
      (storeInv_iff.mp hs).2.warmSlots⟩
  | cold _ hblocks =>
    rw [storeInv_iff, show t.slots = Eight.all .empty from congrArg Blocks.slots hblocks,
      show t.settings = Settings.initial from congrArg Blocks.settings hblocks]
    exact ⟨named_of_none (fun i => by rw [Eight.get_all]; rfl) rfl rfl, paired_empty⟩

/-- Settles O27, by what each request, each packet and each reset does to the pairs and to the names of the slots. -/
theorem storeInvariantKept : Obligations.StoreInvariantKept := fun _ _ hs hstep =>
  step_keeps (P := State.StoreInv) (fun _ _ hs => hs) (fun _ _ _ => storeInv_of_does) hs hstep

end Sys2Proof.Machine

/-! PROOFS. The contents of the profiles (R1, R9 to R14). First the elements that a PROFILE_WRITE carries and what storing them makes
of each section; then the checks of closing; then PROFILE_WRITE, PROFILE_CLOSE and the invariant of the contents. -/

namespace Sys2Proof.Machine

/-! ### The elements that a PROFILE_WRITE carries (R9) -/

theorem codePairs_length (bytes : List Byte) : (codePairs bytes).length = bytes.length / 2 := by
  induction bytes using codePairs.induct with
  | case1 lo hi rest ih =>
    rw [codePairs, List.length_cons, ih, List.length_cons, List.length_cons]
    omega
  | case2 bytes h =>
    match bytes, h with
    | [], _ => rfl
    | [_], _ => simp [codePairs]
    | lo :: hi :: rest, h => exact absurd rfl (h lo hi rest)

theorem codePairs_getElem? {bytes : List Byte} {i : Nat} (h : 2 * i + 2 ≤ bytes.length) :
    (codePairs bytes)[i]? = some (wordOf bytes (2 * i)) := by
  have hdrop : ∀ (i : Nat), 2 * i ≤ bytes.length → (codePairs bytes).drop i = codePairs (bytes.drop (2 * i)) := by
    intro i hi
    induction i with
    | zero => rfl
    | succ i ih =>
      have hcons := ih (by omega)
      rw [codePairs_drop (by omega)] at hcons
      rw [show 2 * (i + 1) = 2 * i + 2 by ring, ← List.tail_drop, hcons, List.tail_cons]
  rw [← List.head?_drop, hdrop i (by omega), codePairs_drop h]
  rfl

section Pieces

variable {k n : Nat} {xs : List Nat}

theorem length_of_mem_pieces {e : List Nat} (h : e ∈ pieces k n xs) : e.length = k := by
  induction n generalizing xs with
  | zero => cases h
  | succ n ih =>
    unfold pieces at h
    split at h
    · cases h
    · rcases List.mem_cons.mp h with rfl | h
      · rw [List.length_take]; omega
      · exact ih h

theorem mem_of_mem_pieces {e : List Nat} (h : e ∈ pieces k n xs) : ∀ x ∈ e, x ∈ xs := by
  induction n generalizing xs with
  | zero => cases h
  | succ n ih =>
    unfold pieces at h
    split at h
    · cases h
    · rcases List.mem_cons.mp h with rfl | h
      · exact fun x hx => List.mem_of_mem_take hx
      · exact fun x hx => List.mem_of_mem_drop (ih h x hx)

/-- A list that is long enough is cut into as many pieces as are wanted. -/
theorem pieces_getElem? (hk : 0 < k) (h : n * k ≤ xs.length) (j : Nat) :
    (pieces k n xs)[j]? = if j < n then some ((xs.drop (j * k)).take k) else none := by
  induction n generalizing xs j with
  | zero => rfl
  | succ n ih =>
    have hle : k + n * k ≤ xs.length := by rw [Nat.succ_mul] at h; omega
    unfold pieces
    rw [if_neg (by omega)]
    cases j with
    | zero => simp
    | succ j =>
      rw [List.getElem?_cons_succ, ih (by rw [List.length_drop]; omega), List.drop_drop]
      simp only [Nat.succ_mul, Nat.add_lt_add_iff_right, Nat.add_comm k]

theorem pieces_length (hk : 0 < k) (h : n * k ≤ xs.length) : (pieces k n xs).length = n := by
  apply Nat.le_antisymm
  · have := pieces_getElem? hk h n
    rw [if_neg (by omega), List.getElem?_eq_none_iff] at this
    exact this
  · by_contra hlt
    have := pieces_getElem? hk h (pieces k n xs).length
    rw [if_pos (by omega), List.getElem?_eq_none (by omega)] at this
    cases this

end Pieces

theorem elementBytes_pos (k : Section5) : 0 < elementBytes k := by cases k <;> decide

/-- An element is made of two-byte codes. -/
theorem elementBytes_half (k : Section5) : elementBytes k = 2 * (elementBytes k / 2) ∧ 0 < elementBytes k / 2 := by
  cases k <;> decide

section Run

variable (k : Section5) (bytes : List Byte)

theorem pieces_fit : bytes.length / elementBytes k * (elementBytes k / 2) ≤ (codePairs bytes).length := by
  obtain ⟨hhalf, -⟩ := elementBytes_half k
  have hle := Nat.div_mul_le_self bytes.length (elementBytes k)
  rw [codePairs_length, Nat.le_div_iff_mul_le (by decide), Nat.mul_assoc, Nat.mul_comm (elementBytes k / 2), ← hhalf]
  exact hle

theorem runElements_length : (runElements k bytes).length = bytes.length / elementBytes k :=
  pieces_length (elementBytes_half k).2 (pieces_fit k bytes)

variable {k bytes}

/-- Code `i` of element `j` is the number in its two bytes (R9). -/
theorem runElements_getElem? {j : Nat} (hj : j < bytes.length / elementBytes k) :
    ∃ codes, (runElements k bytes)[j]? = some codes ∧ codes.length = elementBytes k / 2 ∧
      ∀ i < elementBytes k / 2, codes[i]? = some (wordOf bytes (j * elementBytes k + 2 * i)) := by
  obtain ⟨hhalf, hpos⟩ := elementBytes_half k
  have hrun := pieces_getElem? hpos (pieces_fit k bytes) j
  rw [if_pos hj] at hrun
  refine ⟨_, hrun, length_of_mem_pieces (List.mem_of_getElem? hrun), fun i hi => ?_⟩
  have hbytes : (j + 1) * elementBytes k ≤ bytes.length :=
    (Nat.mul_le_mul_right _ hj).trans (Nat.div_mul_le_self _ _)
  have hplace : 2 * (j * (elementBytes k / 2) + i) = j * elementBytes k + 2 * i := by
    conv_rhs => rw [hhalf]
    ring
  rw [Nat.succ_mul] at hbytes
  rw [List.getElem?_take_of_lt hi, List.getElem?_drop, codePairs_getElem? (by omega), hplace]

theorem length_of_mem_runElements {x : List Nat} (h : x ∈ runElements k bytes) : x.length = elementBytes k / 2 :=
  length_of_mem_pieces h

theorem le_of_mem_runElements {x : List Nat} (h : x ∈ runElements k bytes) : ∀ n ∈ x, n ≤ 65535 := fun n hn =>
  le_of_mem_codePairs n (mem_of_mem_pieces h n hn)

end Run

/-! ### The storing of a run (R11) -/

section Overwrite

variable {α β : Type} {first : Nat} {run : List α} {xs : List (Option α)}

theorem overwrite_length (h : first + run.length ≤ xs.length) : (overwrite first run xs).length = xs.length := by
  simp only [overwrite, List.length_append, List.length_take, List.length_map, List.length_drop]
  omega

theorem overwrite_getElem? (h : first + run.length ≤ xs.length) (j : Nat) :
    (overwrite first run xs)[j]? = if first ≤ j ∧ j < first + run.length then run[j - first]?.map some else xs[j]? := by
  have htake : (xs.take first).length = first := by rw [List.length_take]; omega
  unfold overwrite
  rw [List.append_assoc, List.getElem?_append, htake]
  by_cases hlo : j < first
  · rw [if_pos hlo, if_neg (by omega), List.getElem?_take_of_lt hlo]
  · rw [if_neg hlo, List.getElem?_append, List.length_map]
    by_cases hhi : j - first < run.length
    · rw [if_pos hhi, if_pos (by omega), List.getElem?_map]
    · rw [if_neg hhi, if_neg (by omega), List.getElem?_drop]
      congr 1
      omega

theorem overwrite_map (f : α → β) :
    (overwrite first run xs).map (Option.map f) = overwrite first (run.map f) (xs.map (Option.map f)) := by
  simp [overwrite, List.map_take, List.map_drop, Function.comp_def]

theorem forall_mem_overwrite {Q : Option α → Prop} (hrun : ∀ a ∈ run, Q (some a)) (hxs : ∀ x ∈ xs, Q x) :
    ∀ x ∈ overwrite first run xs, Q x := by
  intro x hx
  rcases List.mem_append.mp hx with hx | hx
  · rcases List.mem_append.mp hx with hx | hx
    · exact hxs x (List.mem_of_mem_take hx)
    · obtain ⟨a, ha, rfl⟩ := List.mem_map.mp hx
      exact hrun a ha
  · exact hxs x (List.mem_of_mem_drop hx)

end Overwrite

/-- An element of one code is its list of codes. -/
theorem map_headD_singleton {run : List (List Nat)} (h : ∀ x ∈ run, x.length = 1) :
    (run.map (·.headD 0)).map (fun n => [n]) = run := by
  rw [List.map_map]
  refine (List.map_congr_left fun x hx => ?_).trans (List.map_id run)
  obtain ⟨n, rfl⟩ := List.length_eq_one_iff.mp (h x hx)
  rfl

/-- The stored run stands among the elements of its section. -/
theorem store_elements {b : Body} {k : Section5} {first : Nat} {run : List (List Nat)}
    (h : ∀ x ∈ run, x.length = elementBytes k / 2) :
    (b.store k first run).elements k = overwrite first run (b.elements k) := by
  cases k with
  | shading => rfl
  | _ => exact (overwrite_map _).trans (congrArg (overwrite first · _) (map_headD_singleton h))

theorem store_elements_ne {b : Body} {k k' : Section5} (h : k' ≠ k) (first : Nat) (run : List (List Nat)) :
    (b.store k first run).elements k' = b.elements k' := by
  cases k <;> cases k' <;> simp [Body.store, Body.elements] at h ⊢

theorem marks_eq_elements (b : Body) (k : Section5) : b.marks k = (b.elements k).map Option.isSome := by
  cases k <;> simp [Body.marks, Body.elements, Function.comp_def]

theorem marksSet_eq_countP (b : Body) (k : Section5) : b.marksSet k = (b.elements k).countP Option.isSome := by
  rw [Body.marksSet, marks_eq_elements, ← List.countP_eq_length_filter, List.countP_map]
  simp [Function.comp_def]

theorem marksClear_eq_countP (b : Body) :
    b.marksClear = (sections.map fun k => (b.elements k).countP Option.isNone).sum := by
  rw [Body.marksClear, ← List.countP_eq_length_filter, List.countP_flatMap]
  simp [Function.comp_def, marks_eq_elements, List.countP_map]

theorem ProfileOk.count_eq {p : Profile} (h : ProfileOk p) (k : Section5) : p.geometry.count k = (p.body.elements k).length := by
  obtain ⟨-, -, -, hfocus, hzoom, hiris, hmag, hshade, -⟩ := h
  cases k <;> simp [Geometry.count, Body.elements, *]

/-! ### The checks of closing (R12, R13) -/

theorem lowestClear_eq_some_iff {b : Body} {k : Section5} {e : Nat} :
    b.lowestClear k = some e ↔ (b.marks k)[e]? = some false ∧ ∀ j < e, (b.marks k)[j]? = some true := by
  rw [Body.lowestClear, List.findIdx?_eq_some_iff_getElem]
  constructor
  · rintro ⟨hlength, hclear, hset⟩
    refine ⟨by rw [List.getElem?_eq_getElem hlength]; simpa using hclear, fun j hj => ?_⟩
    rw [List.getElem?_eq_getElem (hj.trans hlength)]
    simpa using hset j hj
  · rintro ⟨hclear, hset⟩
    obtain ⟨hlength, hfalse⟩ := List.getElem?_eq_some_iff.mp hclear
    refine ⟨hlength, by simpa using hfalse, fun j hj => ?_⟩
    have htrue := hset j hj
    rw [List.getElem?_eq_getElem (hj.trans hlength)] at htrue
    simpa using htrue

theorem lowestClear_eq_none_iff {b : Body} {k : Section5} : b.lowestClear k = none ↔ ∀ m ∈ b.marks k, m = true := by
  simp [Body.lowestClear, List.findIdx?_eq_none_iff]

/-- A section whose lowest clear mark is `e`, after sections wholly written, gives the first missing element. -/
theorem firstMissing_eq_some {b : Body} {k : Section5} {e : Nat} (hk : b.lowestClear k = some e)
    (hbefore : ∀ k', k'.code.toNat < k.code.toNat → b.lowestClear k' = none) : b.firstMissing = some (k, e) := by
  have written {j : Section5} (h : j.code.toNat < k.code.toNat) := hbefore j h
  unfold Body.firstMissing sections
  cases k with
  | focusNodes => simp [hk]
  | zoomNodes => simp [hk, written (j := .focusNodes) (by decide)]
  | irisNodes => simp [hk, written (j := .focusNodes) (by decide), written (j := .zoomNodes) (by decide)]
  | magnification =>
    simp [hk, written (j := .focusNodes) (by decide), written (j := .zoomNodes) (by decide),
      written (j := .irisNodes) (by decide)]
  | shading =>
    simp [hk, written (j := .focusNodes) (by decide), written (j := .zoomNodes) (by decide),
      written (j := .irisNodes) (by decide), written (j := .magnification) (by decide)]

theorem firstMissing_eq_none_iff {b : Body} : b.firstMissing = none ↔ ∀ k, b.lowestClear k = none := by
  rw [Body.firstMissing, List.findSome?_eq_none_iff]
  refine ⟨fun h k => ?_, fun h k _ => by rw [h k]; rfl⟩
  have hk : k ∈ sections := by cases k <;> decide
  simpa using h k hk

theorem marksClear_of_firstMissing {b : Body} (h : b.firstMissing = none) : b.marksClear = 0 := by
  rw [Body.marksClear, List.length_eq_zero_iff, List.filter_eq_nil_iff]
  intro m hm
  obtain ⟨k, -, hk⟩ := List.mem_flatMap.mp hm
  simp [lowestClear_eq_none_iff.mp (firstMissing_eq_none_iff.mp h k) m hk]

theorem firstDisorder_eq_none_iff (i : Nat) (xs : List Nat) : firstDisorder i xs = none ↔ xs.Pairwise (· < ·) := by
  induction i, xs using firstDisorder.induct with
  | case1 i a b rest h =>
    rw [firstDisorder, if_pos h]
    refine ⟨nofun, fun hsorted => ?_⟩
    have := List.rel_of_pairwise_cons hsorted (List.mem_cons_self (a := b))
    omega
  | case2 i a b rest h ih =>
    rw [firstDisorder, if_neg h, ih]
    refine ⟨fun hsorted => List.pairwise_cons.mpr ⟨fun x hx => ?_, hsorted⟩, List.Pairwise.of_cons⟩
    rcases List.mem_cons.mp hx with rfl | hx
    · omega
    · have := List.rel_of_pairwise_cons hsorted hx
      omega
  | case3 xs i h =>
    match xs, h with
    | [], _ => simp [firstDisorder]
    | [_], _ => simp [firstDisorder]
    | a :: b :: rest, h => exact absurd rfl (h a b rest)

/-- The first node that is not above the one before it (R13). -/
theorem firstDisorder_eq_some {xs : List Nat} {e v w : Nat} (hv : xs[e]? = some v) (hw : xs[e + 1]? = some w) (hle : w ≤ v)
    (hsorted : (xs.take (e + 1)).Pairwise (· < ·)) (i : Nat) : firstDisorder i xs = some (i + e) := by
  induction e generalizing xs i with
  | zero =>
    obtain ⟨a, b, rest, rfl⟩ : ∃ a b rest, xs = a :: b :: rest := by
      match xs, hw with
      | a :: b :: rest, _ => exact ⟨a, b, rest, rfl⟩
    obtain rfl : a = v := Option.some.inj hv
    obtain rfl : b = w := Option.some.inj hw
    rw [firstDisorder, if_pos hle, Nat.add_zero]
  | succ e ih =>
    obtain ⟨a, b, rest, rfl⟩ : ∃ a b rest, xs = a :: b :: rest := by
      match xs, hv with
      | a :: b :: rest, _ => exact ⟨a, b, rest, rfl⟩
    rw [List.take_succ_cons, List.take_succ_cons] at hsorted
    have hab := List.rel_of_pairwise_cons hsorted (List.mem_cons_self (a := b))
    rw [firstDisorder, if_neg (by omega), ih hv hw (by rw [List.take_succ_cons]; exact hsorted.of_cons)]
    congr 1
    omega

theorem firstUnordered_eq_none_iff {b : Body} : b.firstUnordered = none ↔ ∀ a, (b.nodesOf a).Pairwise (· < ·) := by
  have each : (∀ a, (b.nodesOf a).Pairwise (· < ·)) ↔ firstDisorder 1 (codesOf b.focusNodes) = none ∧
      firstDisorder 1 (codesOf b.zoomNodes) = none ∧ firstDisorder 1 (codesOf b.irisNodes) = none := by
    simp only [firstDisorder_eq_none_iff]
    exact ⟨fun h => ⟨h .focus, h .zoom, h .iris⟩, fun ⟨hfocus, hzoom, hiris⟩ a => by cases a <;> assumption⟩
  rw [each, Body.firstUnordered]
  cases hfocus : firstDisorder 1 (codesOf b.focusNodes) with
  | some i => simp
  | none => cases hzoom : firstDisorder 1 (codesOf b.zoomNodes) <;> simp

/-- The first axis out of order gives the node. -/
theorem firstUnordered_eq_some {b : Body} {a : Axis} {e : Nat} (ha : firstDisorder 1 (b.nodesOf a) = some e)
    (hbefore : ∀ a', a'.code.toNat < a.code.toNat → firstDisorder 1 (b.nodesOf a') = none) :
    b.firstUnordered = some (a, e) := by
  unfold Body.firstUnordered
  cases a with
  | focus => rw [show firstDisorder 1 (codesOf b.focusNodes) = some e from ha]
  | zoom =>
    rw [show firstDisorder 1 (codesOf b.focusNodes) = none from hbefore .focus (by decide),
      show firstDisorder 1 (codesOf b.zoomNodes) = some e from ha]
  | iris =>
    rw [show firstDisorder 1 (codesOf b.focusNodes) = none from hbefore .focus (by decide),
      show firstDisorder 1 (codesOf b.zoomNodes) = none from hbefore .zoom (by decide),
      show firstDisorder 1 (codesOf b.irisNodes) = some e from ha]
    rfl

/-! ### The contents are kept good -/

theorem newProfile_ok {g : Geometry} (hg : g.admissible = true) (infinity : InfinityEnd) (label : List Byte) :
    ProfileOk (newProfile g infinity label) := by
  have blank {α : Type} {n : Nat} {Q : Option α → Prop} (hQ : Q none) : ∀ x ∈ List.replicate n (none : Option α), Q x :=
    fun x hx => List.eq_of_mem_replicate hx ▸ hQ
  exact ⟨hg, rfl, rfl, List.length_replicate, List.length_replicate, List.length_replicate, List.length_replicate,
    List.length_replicate, blank nofun, blank nofun, blank nofun, blank nofun, blank nofun⟩

section Written

variable {p : Profile} (h : ProfileOk p) {k : Section5} {first : Nat} {bytes : List Byte}
  (hfits : first + (runElements k bytes).length ≤ p.geometry.count k)
  (hcodes : ∀ element ∈ runElements k bytes, element.all (codeGood k) = true)
include h hfits hcodes

/-- A good run that fits leaves the profile well shaped and its codes in range (R10, R11). -/
theorem written_profileOk : ProfileOk { p with body := p.body.store k first (runElements k bytes) } := by
  have hone (x : List Nat) (hx : x ∈ runElements k bytes) (hk : elementBytes k = 2) : x.headD 0 ∈ x := by
    have hlength : x.length = 1 := by rw [length_of_mem_runElements hx, hk]
    obtain ⟨n, rfl⟩ := List.length_eq_one_iff.mp hlength
    exact List.mem_singleton_self n
  have hnode (hk : elementBytes k = 2) : ∀ n ∈ (runElements k bytes).map (·.headD 0), CodeOk (some n) := by
    intro n hn m hm
    obtain ⟨x, hx, rfl⟩ := List.mem_map.mp hn
    obtain rfl := Option.some.inj hm
    exact le_of_mem_runElements hx _ (hone x hx hk)
  have hlength (hk : elementBytes k = 2) : first + ((runElements k bytes).map (·.headD 0)).length ≤ p.geometry.count k := by
    rwa [List.length_map]
  obtain ⟨hg, hsize, hpair, hf, hz, hi, hm, hs, cf, cz, ci, cm, cs⟩ := h
  cases k with
  | focusNodes =>
    exact ⟨hg, hsize, hpair, (overwrite_length (hf ▸ hlength rfl)).trans hf, hz, hi, hm, hs,
      forall_mem_overwrite (hnode rfl) cf, cz, ci, cm, cs⟩
  | zoomNodes =>
    exact ⟨hg, hsize, hpair, hf, (overwrite_length (hz ▸ hlength rfl)).trans hz, hi, hm, hs, cf,
      forall_mem_overwrite (hnode rfl) cz, ci, cm, cs⟩
  | irisNodes =>
    exact ⟨hg, hsize, hpair, hf, hz, (overwrite_length (hi ▸ hlength rfl)).trans hi, hm, hs, cf, cz,
      forall_mem_overwrite (hnode rfl) ci, cm, cs⟩
  | magnification =>
    refine ⟨hg, hsize, hpair, hf, hz, hi, (overwrite_length (hm ▸ hlength rfl)).trans hm, hs, cf, cz, ci,
      forall_mem_overwrite (fun n hn m hm => ?_) cm, cs⟩
    refine ⟨?_, hnode rfl n hn m hm⟩
    obtain ⟨x, hx, rfl⟩ := List.mem_map.mp hn
    obtain rfl := Option.some.inj hm
    exact of_decide_eq_true (List.all_eq_true.mp (hcodes x hx) _ (hone x hx rfl))
  | shading =>
    refine ⟨hg, hsize, hpair, hf, hz, hi, hm, (overwrite_length (hs ▸ hfits)).trans hs, cf, cz, ci, cm,
      forall_mem_overwrite (fun set hset codes hcode => ?_) cs⟩
    obtain rfl := Option.some.inj hcode
    exact ⟨length_of_mem_runElements hset, fun n hn =>
      ⟨of_decide_eq_true (List.all_eq_true.mp (hcodes set hset) n hn), le_of_mem_runElements hset n hn⟩⟩

end Written

/-- A profile that passes the checks of closing is finished (R12 to R14). -/
theorem closed_profileDone {p : Profile} (hmissing : p.body.firstMissing = none) (hunordered : p.body.firstUnordered = none) :
    ProfileDone p :=
  have hsorted := firstUnordered_eq_none_iff.mp hunordered
  ⟨marksClear_of_firstMissing hmissing, hsorted .focus, hsorted .zoom, hsorted .iris⟩

theorem openSlot_slotOk {slots : Eight Slot} (h : ∀ j, SlotOk (slots.get j)) (i : Fin 8) {p : Profile} (hp : ProfileOk p) :
    ∀ j, SlotOk ((openSlot slots i p).get j) := by
  intro j
  rw [openSlot_get]
  split
  · trivial
  · split
    · exact hp
    · exact h j

theorem emptySlot_slotOk {slots : Eight Slot} (h : ∀ j, SlotOk (slots.get j)) (i : Fin 8) (pair : Bool) :
    ∀ j, SlotOk ((emptySlot slots i pair).get j) := by
  intro j
  rw [emptySlot_get]
  split
  · trivial
  · exact h j

theorem warmSlot_slotOk (slots : Eight Slot) {x : Slot} (h : SlotOk x) : SlotOk (warmSlot slots x) := by
  match x with
  | .partner j => unfold warmSlot; dsimp only; split <;> trivial
  | .empty | .live .opened _ => trivial
  | .live .ready _ | .live .inUse _ => exact h

theorem packetClosed_contentInv : PacketClosed State.ContentInv where
  pixel _ ht := ht
  outputs _ ht := ht
  planner _ ht := ht
  watches _ ht := ht
  faulted {t} kind frame row ht := by
    unfold State.reportFault
    split <;> exact ht
  applied ht := applyNow_contentInv ht
  evaluated _ ht := ht
  captured {t} m ht := by
    unfold State.takeCapture
    split <;> exact ht
  handedOver _ ht := ht
  streamed ht := ht
  announced ht := ht

theorem contentInv_of_slots_eq {s t : State} (hs : s.ContentInv) (h : t.slots = s.slots) : t.ContentInv := by
  unfold State.ContentInv
  rw [h]
  exact hs

theorem State.Deed.contentInv {r : Record} {s t : State} (h : s.Deed r t) (hs : s.ContentInv) : t.ContentInv := by
  have here {i : Fin 8} {x : Slot} (hslot : s.slots.get i = x) : SlotOk x := hslot ▸ hs i
  cases h with
  | opened infinity label hg _ _ => exact openSlot_slotOk hs _ (newProfile_ok hg infinity label)
  | written hslot hfits hcodes =>
    exact slotOk_set hs _ (written_profileOk (show ProfileOk _ from here hslot) hfits hcodes)
  | closed hslot hmissing hunordered =>
    exact slotOk_set hs _ ⟨show ProfileOk _ from here hslot, closed_profileDone hmissing hunordered⟩
  | discarded _ _ => exact emptySlot_slotOk hs _ _
  | applied => exact applyNow_contentInv hs
  | streamRestarted => exact contentInv_of_slots_eq hs (slots_eq_of_blocks_eq (streamRestart_blocks s))
  | _ => exact hs

theorem contentInv_of_does {c : Instr} {s t : State} (hs : s.ContentInv) (h : s.Does c t) : t.ContentInv := by
  cases h.moves with
  | same hblocks => exact contentInv_of_slots_eq hs (slots_eq_of_blocks_eq hblocks)
  | packet hpacket => exact packetClosed_contentInv.packet hs hpacket
  | deed _ _ hu hdeed ht =>
    exact contentInv_of_slots_eq (hdeed.contentInv (contentInv_of_slots_eq hs (slots_eq_of_blocks_eq hu)))
      (slots_eq_of_blocks_eq ht)
  | warm _ hblocks =>
    intro i
    rw [show t.slots = warmSlots s.slots from congrArg Blocks.slots hblocks, warmSlots_get]
    exact warmSlot_slotOk _ (hs i)
  | cold _ hblocks =>
    intro i
    rw [show t.slots = Eight.all .empty from congrArg Blocks.slots hblocks, Eight.get_all]
    trivial

/-- Settles O28: a run is stored within its section and its ranges, a slot closes only when it passes the checks, and every other
change moves whole slots. -/
theorem contentInvariantKept : Obligations.ContentInvariantKept := fun _ _ hs hstep =>
  step_keeps (P := State.ContentInv) (fun _ _ hs => hs) (fun _ _ _ => contentInv_of_does) hs hstep

end Sys2Proof.Machine

/-! PROOFS. PROFILE_OPEN with a bad field, PROFILE_WRITE and PROFILE_CLOSE (R5, R9 to R14): each owner by its checks in their
order. -/

namespace Sys2Proof.Machine

/-! ### PROFILE_OPEN with a bad field (R5) -/

theorem decodeInfinity_of_two_le {n : Nat} (h : 2 ≤ n) : decodeInfinity n = none := by
  match n, h with
  | n + 2, _ => rfl

theorem allocate_of_bad_request {s : State} {request : Nat} (p : Profile) (h : 8 ≤ request) (hany : request ≠ 0xFF) :
    allocate s request p = refuse .badValue s := by
  rw [allocate, if_neg hany, index8_eq_none.mpr h]

theorem admissible_iff {g : Geometry} : g.admissible = true ↔ Within 2 16 g.nf ∧ Within 1 8 g.nz ∧ Within 1 8 g.ni := by
  simp [Geometry.admissible, Within, and_assoc]

/-- Settles O21: the field that breaks R5 is met by its own check, and the slot request by the last. -/
theorem profileOpenChecksItsFields : Obligations.ProfileOpenChecksItsFields := by
  intro q nf nz ni e request label s hbody ht hbad
  have hlength : lengthAgrees 0x05 q.body.length = true := by rw [hbody]; exact decide_eq_true (Nat.le_add_left 5 label.length)
  refine congrArg Host.Outcome.next (takeRequest_of_refusal ht hlength (show _ = refuse .badValue s.removeOldest from ?_))
  have byte (i : Nat) {b : Byte} (hb : ([nf, nz, ni, e, request] ++ label)[i]? = some b) :
      fieldAt q.body i 1 = b.toNat := fieldAt_byte (hbody ▸ hb)
  have hdrop : q.body.drop 5 = label := by rw [hbody]; rfl
  simp only [profileOpenOwner, byte 0 rfl, byte 1 rfl, byte 2 rfl, byte 3 rfl, byte 4 rfl, hdrop]
  by_cases he : 2 ≤ e.toNat
  · rw [decodeInfinity_of_two_le he]
  · rw [decodeInfinity_of_le_one (by omega)]
    dsimp only
    split
    · rename_i hgood
      obtain ⟨hgeometry, hlabel⟩ := Bool.and_eq_true_iff.mp hgood
      obtain ⟨hnf, hnz, hni⟩ := admissible_iff.mp hgeometry
      obtain ⟨hlen, hch⟩ := labelGood_iff.mp hlabel
      rcases hbad with h | h | h | h | h | ⟨ch, hmem, h⟩ | ⟨hrequest, hany⟩
      · exact absurd hnf h
      · exact absurd hnz h
      · exact absurd hni h
      · exact absurd h he
      · exact absurd hlen (by omega)
      · exact absurd (hch ch hmem) h
      · exact allocate_of_bad_request _ hrequest fun h => hany (BitVec.eq_of_toNat_eq h)
    · rfl

/-! ### PROFILE_WRITE (R9 to R11) -/

theorem decodeSection_code (k : Section5) : decodeSection k.code.toNat = some k := by cases k <;> rfl

theorem decodeSection_of_lt {n : Nat} (h : 4 < n) : decodeSection n = none := by
  match n, h with
  | n + 5, _ => rfl

theorem codeGood_iff {k : Section5} {n : Nat} :
    codeGood k n = true ↔ (k = .magnification → 16384 ≤ n) ∧ (k = .shading → 2048 ≤ n) := by
  cases k <;> simp [codeGood]

theorem elementBytes_eq (k : Section5) : elementBytes k = if k = .shading then 102 else 2 := by cases k <;> rfl

theorem runMax_eq (k : Section5) : runMax k = if k = .shading then 8 else 240 := by cases k <;> rfl

theorem runLengthGood_iff {k : Section5} {n : Nat} :
    runLengthGood k n = true ↔ n % elementBytes k = 0 ∧ Within 1 (runMax k) (n / elementBytes k) := by
  simp [runLengthGood, Within]

section Writing

variable {q : Request} {k : Section5} {s : State} (hk : q.body[1]? = some k.code)
include hk

theorem profileWriteOwner_of_length (h : runLengthGood k (q.body.drop 4).length = false) :
    profileWriteOwner q s = refuseLength q s := by
  simp only [profileWriteOwner, fieldAt_byte hk, decodeSection_code, h, Bool.not_false, if_true]

variable (h : runLengthGood k (q.body.drop 4).length = true)
include h

theorem profileWriteOwner_of_index (hi : 8 ≤ fieldAt q.body 0 1) : profileWriteOwner q s = refuse .badValue s := by
  simp only [profileWriteOwner, fieldAt_byte hk, decodeSection_code, h, Bool.not_true, Bool.false_eq_true, if_false,
    index8_eq_none.mpr hi]

variable {i : Fin 8} (hi : fieldAt q.body 0 1 = i.val)
include hi

theorem profileWriteOwner_of_slot (hslot : ∀ p, s.slots.get i ≠ .live .opened p) :
    profileWriteOwner q s = refuse .slotState s := by
  simp only [profileWriteOwner, fieldAt_byte hk, decodeSection_code, h, Bool.not_true, Bool.false_eq_true, if_false,
    index8_eq_some.mpr hi]

theorem profileWriteOwner_of_opened {p : Profile} (hslot : s.slots.get i = .live .opened p) :
    profileWriteOwner q s = writeRun s i p k (fieldAt q.body 2 2) (runElements k (q.body.drop 4)) := by
  simp only [profileWriteOwner, fieldAt_byte hk, decodeSection_code, h, Bool.not_true, Bool.false_eq_true, if_false,
    index8_eq_some.mpr hi, hslot]

end Writing

theorem writeRun_of_bad {s : State} {i : Fin 8} {p : Profile} {k : Section5} {first : Nat} {run : List (List Nat)}
    (h : p.geometry.count k < first + run.length ∨
      (∃ x ∈ run, ∃ n ∈ x, k = .magnification ∧ n < 16384 ∨ k = .shading ∧ n < 2048)) :
    writeRun s i p k first run = refuse .badValue s := by
  unfold writeRun
  split
  · rfl
  · rename_i hfits
    rw [if_neg]
    intro hall
    obtain ⟨x, hx, n, hn, hlow⟩ := h.resolve_left hfits
    have hgood := codeGood_iff.mp (List.all_eq_true.mp (List.all_eq_true.mp hall x hx) n hn)
    rcases hlow with ⟨hk, hlow⟩ | ⟨hk, hlow⟩
    · exact absurd (hgood.1 hk) (by omega)
    · exact absurd (hgood.2 hk) (by omega)

theorem writeRun_of_good {s : State} {i : Fin 8} {p : Profile} {k : Section5} {first : Nat} {run : List (List Nat)}
    (hfits : first + run.length ≤ p.geometry.count k)
    (hcodes : ∀ x ∈ run, ∀ n ∈ x, (k = .magnification → 16384 ≤ n) ∧ (k = .shading → 2048 ≤ n)) :
    writeRun s i p k first run =
      answer .ok
        ([k.code] ++ leBytes 2 ((p.body.store k first run).marksSet k) ++ leBytes 2 (p.body.store k first run).marksClear)
        (s.setSlots (s.slots.set i (.live .opened { p with body := p.body.store k first run }))) := by
  unfold writeRun
  rw [if_neg (by omega), if_pos]
  exact List.all_eq_true.mpr fun x hx => List.all_eq_true.mpr fun n hn => codeGood_iff.mpr (hcodes x hx n hn)

/-- Settles O24, by the checks of PROFILE_WRITE in their order and what a stored run makes of its section. -/
theorem profileWriteStoresItsRun : Obligations.ProfileWriteStoresItsRun := by
  have length {q : Request} (h : 4 ≤ q.body.length) : lengthAgrees 0x06 q.body.length = true := decide_eq_true h
  refine ⟨fun q n s hlong hn hsection ht => ?_, ?_⟩
  · refine congrArg Host.Outcome.next (takeRequest_of_refusal ht (length hlong)
      (show profileWriteOwner q s.removeOldest = refuse .badValue s.removeOldest from ?_))
    simp only [profileWriteOwner, fieldAt_byte hn, decodeSection_of_lt hsection]
  intro q k elements s first run size most hlong helements hk ht
  subst helements
  have hsize : size = elementBytes k := (elementBytes_eq k).symm
  have hmost : most = runMax k := (runMax_eq k).symm
  have hgood : runLengthGood k (q.body.drop 4).length = true ↔ _ := runLengthGood_iff
  clear_value size most
  subst hsize hmost
  refine ⟨fun hbad => ?_, fun hwhole hcount => ?_⟩
  · exact congrArg Host.Outcome.next (takeRequest_of_refusal ht (length hlong)
      (profileWriteOwner_of_length hk (Bool.eq_false_iff.mpr (hgood.not.mpr hbad))))
  have hrun := hgood.mpr ⟨hwhole, hcount⟩
  have hlength : run.length = (q.body.drop 4).length / elementBytes k := runElements_length k _
  refine ⟨⟨hlength, fun j hj => runElements_getElem? (hlength ▸ hj)⟩, fun hi => ?_, fun i hi => ⟨fun hslot => ?_, ?_⟩⟩
  · exact congrArg Host.Outcome.next (takeRequest_of_refusal ht (length hlong) (profileWriteOwner_of_index hk hrun hi))
  · exact congrArg Host.Outcome.next (takeRequest_of_refusal ht (length hlong)
      (profileWriteOwner_of_slot hk hrun hi (by simpa using hslot)))
  intro p hslot hp
  have howner := profileWriteOwner_of_opened (s := s.removeOldest) hk hrun hi hslot
  refine ⟨hp.count_eq k, fun hbad => ?_, fun hfits hcodes => ?_⟩
  · exact congrArg Host.Outcome.next (takeRequest_of_refusal ht (length hlong) (howner.trans (writeRun_of_bad hbad)))
  · have hstored : (p.body.store k first run).elements k = overwrite first run (p.body.elements k) :=
      store_elements fun x hx => length_of_mem_runElements hx
    refine ⟨p.body.store k first run, fun k' hne => store_elements_ne hne first run, fun j => ?_,
      marksSet_eq_countP _ k, marksClear_eq_countP _, ?_⟩
    · rw [hstored, overwrite_getElem? (hp.count_eq k ▸ hfits)]
    · refine congrArg Host.Outcome.next (takeRequest_of_answer ht (length hlong)
        (t := s.setSlots (s.slots.set i (.live .opened { p with body := p.body.store k first run }))) ?_)
      rw [howner, writeRun_of_good hfits hcodes, removeOldest_slots, removeOldest_setSlots]

/-! ### PROFILE_CLOSE (R12 to R14) -/

/-- Settles O25, by the two checks of PROFILE_CLOSE in their order. -/
theorem profileCloseChecksAndReadies : Obligations.ProfileCloseChecksAndReadies := by
  intro q n s hq ht
  have hlength : lengthAgrees 0x07 q.body.length = true := by rw [hq]; rfl
  have hfield : fieldAt q.body 0 1 = n.toNat := fieldAt_byte (by rw [hq]; rfl)
  have refused {code : ResultCode} {fields : List Byte}
      (h : profileCloseOwner q s.removeOldest = answer code fields s.removeOldest) :
      exec (.profileClose q) s = .next (s.answered (replyTo 0x07 q code fields)) :=
    congrArg Host.Outcome.next (takeRequest_of_refusal ht hlength h)
  refine ⟨fun hn => refused ?_, fun i hn => ?_⟩
  · rw [profileCloseOwner, index8_eq_none.mpr (hfield ▸ hn), refuse]
  have hindex : index8 (fieldAt q.body 0 1) = some i := index8_eq_some.mpr (hfield.trans hn)
  refine ⟨fun hslot => refused ?_, fun p hslot => ?_⟩
  · simp only [profileCloseOwner, hindex, removeOldest_slots, refuse]
  have howner : profileCloseOwner q s.removeOldest = closeSlot s.removeOldest i p := by
    simp only [profileCloseOwner, hindex, removeOldest_slots, hslot]
  refine ⟨fun k e hclear hset hbefore => refused ?_, fun hmarks => ⟨fun a e v w hv hw hle hsorted hbefore => refused ?_,
    fun hsorted => ?_⟩⟩
  · have hmissing := firstMissing_eq_some (lowestClear_eq_some_iff.mpr ⟨hclear, hset⟩)
      fun k' hk' => lowestClear_eq_none_iff.mpr (hbefore k' hk')
    simp only [howner, closeSlot, hmissing]
  all_goals have hmissing := firstMissing_eq_none_iff.mpr fun k => lowestClear_eq_none_iff.mpr (hmarks k)
  · have hunordered := firstUnordered_eq_some (firstDisorder_eq_some hv hw hle hsorted 1)
      fun a' ha' => (firstDisorder_eq_none_iff 1 _).mpr (hbefore a' ha')
    simp only [howner, closeSlot, hmissing, hunordered, Nat.add_comm 1 e]
  · refine congrArg Host.Outcome.next (takeRequest_of_answer ht hlength
      (t := s.setSlots (s.slots.set i (.live .ready p))) ?_)
    simp only [howner, closeSlot, hmissing, firstUnordered_eq_none_iff.mpr hsorted, removeOldest_slots,
      removeOldest_setSlots]

end Sys2Proof.Machine

/-! PROOFS. The requests of the settings stage, the stream, the band planner and the ramps (R66, R105, R106, R127 to R131, R138 to
R141), and SUBSCRIBE (R162): each owner by its checks in their order. -/

namespace Sys2Proof.Machine

/-! ### STAGE_WRITE (R127 to R129) -/

/-- The lengths that the forms of the ten parameters call for, as a table (R127). -/
theorem settingLength_table {n len : Nat} :
    ([some 1, some 1, some 2, none, none, none, some 4, some 4, some 1, some 1] : List (Option Nat))[n]? = some (some len) ↔
      settingLength n = some len := by
  match n with
  | 0 | 1 | 2 | 3 | 4 | 5 | 6 | 7 | 8 | 9 => simp [settingLength]
  | n + 10 => simp [settingLength]

theorem Setting.CodedBy.number_eq {v : Setting} {number : Nat} {value : List Byte} (h : v.CodedBy number value) :
    v.number = number := by
  cases v <;> exact h.1.symm

/-- The parameter that a setting writes takes its value, and its changed flag is set (R127). -/
theorem Settings.write_same (x : Settings) (v : Setting) :
    (x.write v).staged.toList[v.number]? = some v ∧ (x.write v).changed.toList[v.number]? = some true := by
  cases v <;> exact ⟨rfl, rfl⟩

/-- The other parameters and their changed flags stand. -/
theorem Settings.write_other (x : Settings) (v : Setting) {m : Nat} (h : m ≠ v.number) :
    (x.write v).staged.toList[m]? = x.staged.toList[m]? ∧ (x.write v).changed.toList[m]? = x.changed.toList[m]? := by
  match m with
  | 0 | 1 | 2 | 3 | 4 | 5 | 6 | 7 | 8 | 9 => cases v <;> first | exact ⟨rfl, rfl⟩ | exact absurd rfl h
  | m + 10 => cases v <;> exact ⟨rfl, rfl⟩

theorem pairingGood_eq_false_iff {staged : Params} {v : Setting} :
    pairingGood staged v = false ↔
      (∃ x, v = .coastLimit x ∧ staged.lostLimit < x) ∨ (∃ x, v = .lostLimit x ∧ x < staged.coastLimit) := by
  cases v <;> simp [pairingGood]

theorem slotGood_eq_false_iff {slots : Eight Slot} {v : Setting} :
    slotGood slots v = false ↔ ∃ i, v = .profile (some i) ∧
      (slots.get i = .empty ∨ (∃ j, slots.get i = .partner j) ∨ ∃ p, slots.get i = .live .opened p) := by
  have usable (x : Slot) : x.usable = false ↔ x = .empty ∨ (∃ j, x = .partner j) ∨ ∃ p, x = .live .opened p := by
    match x with
    | .empty | .partner _ | .live .opened _ | .live .ready _ | .live .inUse _ => simp [Slot.usable]
  match v with
  | .profile (some i) => simp [slotGood, usable]
  | .profile none | .refMode _ | .refMag _ | .focusOrder _ | .zoomOrder _ | .irisOrder _ | .coastLimit _ | .lostLimit _
  | .lossAction _ | .fadeFrames _ => simp [slotGood]

theorem removeOldest_setSettings (s : State) (x : Settings) :
    s.removeOldest.setSettings x = (s.setSettings x).removeOldest := rfl

section StageWrite

variable {q : Request} {n : Byte} {value : List Byte} {s : State} (hbody : q.body = n :: value)
include hbody

theorem stageWriteOwner_of_number (h : 9 < n.toNat) : stageWriteOwner q s = refuse .badValue s := by
  have hn : fieldAt q.body 0 1 = n.toNat := fieldAt_byte (by rw [hbody]; rfl)
  simp only [stageWriteOwner, hn, if_pos h]

theorem stageWriteOwner_of_length (h : n.toNat ≤ 9) {len : Nat} (hlen : settingLength n.toNat = some len)
    (hvalue : value.length ≠ len) : stageWriteOwner q s = refuseLength q s := by
  have hn : fieldAt q.body 0 1 = n.toNat := fieldAt_byte (by rw [hbody]; rfl)
  have hdrop : q.body.drop 1 = value := by rw [hbody]; rfl
  simp only [stageWriteOwner, hn, hdrop, if_neg (Nat.not_lt.mpr h), hlen]
  exact if_pos (by simpa using Ne.symm hvalue)

variable (h : n.toNat ≤ 9) (hlen : ∀ len, settingLength n.toNat = some len → value.length = len)
include h hlen

theorem stageWriteOwner_of_value (hvalue : ∀ v : Setting, ¬ v.CodedBy n.toNat value) :
    stageWriteOwner q s = refuse .badValue s := by
  have hn : fieldAt q.body 0 1 = n.toNat := fieldAt_byte (by rw [hbody]; rfl)
  have hdrop : q.body.drop 1 = value := by rw [hbody]; rfl
  have hnone : decodeSetting n.toNat value = none :=
    Option.eq_none_iff_forall_ne_some.mpr fun v hv => hvalue v ((decodeSetting_iff hlen v).mp hv)
  simp only [stageWriteOwner, hn, hdrop, if_neg (Nat.not_lt.mpr h), hnone]
  split
  · rename_i hbad
    cases hl : settingLength n.toNat with
    | none => rw [hl] at hbad; cases hbad
    | some len => rw [hl] at hbad; simp [hlen len hl] at hbad
  · rfl

theorem stageWriteOwner_of_coded {v : Setting} (hv : v.CodedBy n.toNat value) :
    stageWriteOwner q s = stageSetting s v := by
  have hn : fieldAt q.body 0 1 = n.toNat := fieldAt_byte (by rw [hbody]; rfl)
  have hdrop : q.body.drop 1 = value := by rw [hbody]; rfl
  simp only [stageWriteOwner, hn, hdrop, if_neg (Nat.not_lt.mpr h), (decodeSetting_iff hlen v).mpr hv]
  split
  · rename_i hbad
    cases hl : settingLength n.toNat with
    | none => rw [hl] at hbad; cases hbad
    | some len => rw [hl] at hbad; simp [hlen len hl] at hbad
  · rfl

end StageWrite

theorem stageSetting_of_good {s : State} {v : Setting} (hpaired : pairingGood s.settings.staged v = true)
    (hslot : slotGood s.slots v = true) :
    stageSetting s v =
      answer .ok
        (leBytes 1 v.number ++ encodeSetting v ++ encodeFlag (decide (s.settings.active.toList[v.number]? ≠ some v))
          ++ [s.settings.apply.code])
        (s.setSettings (s.settings.write v)) := by
  have hdiffers : (s.settings.write v).differs v = decide (s.settings.active.toList[v.number]? ≠ some v) := by
    rw [Settings.differs, (s.settings.write_same v).1, Bool.eq_iff_iff, bne_iff_ne, decide_eq_true_iff]
    exact ne_comm
  unfold stageSetting
  rw [hpaired, hslot, ← hdiffers]
  rfl

/-- Settles O29, by the checks of STAGE_WRITE in their order. -/
theorem stageWriteStagesTheValue : Obligations.StageWriteStagesTheValue := by
  intro q n value s hbody ht lengths
  have hlength : lengthAgrees 0x0E q.body.length = true := by rw [hbody]; exact decide_eq_true (Nat.le_add_left 1 value.length)
  have refused {code : ResultCode} {fields : List Byte}
      (h : stageWriteOwner q s.removeOldest = answer code fields s.removeOldest) :
      exec (.stageWrite q) s = .next (s.answered (replyTo 0x0E q code fields)) :=
    congrArg Host.Outcome.next (takeRequest_of_refusal ht hlength h)
  refine ⟨fun h => refused (stageWriteOwner_of_number hbody h), fun len hlen hvalue => ?_, fun hlens hn =>
    ⟨fun hvalue => ?_, fun v hv => ?_⟩⟩
  · have hn : n.toNat ≤ 9 := by
      obtain ⟨hlt, -⟩ := List.getElem?_eq_some_iff.mp hlen
      exact Nat.le_of_lt_succ hlt
    exact refused (stageWriteOwner_of_length hbody hn (settingLength_table.mp hlen) hvalue)
  all_goals have hlens : ∀ len, settingLength n.toNat = some len → value.length = len :=
    fun len hlen => hlens len (settingLength_table.mpr hlen)
  · exact refused (stageWriteOwner_of_value hbody hn hlens hvalue)
  · have howner := stageWriteOwner_of_coded (s := s.removeOldest) hbody hn hlens hv
    have hnumber := hv.number_eq
    intro unpaired unusable
    have hunpaired : pairingGood s.settings.staged v = false ↔ unpaired := pairingGood_eq_false_iff
    have hunusable : slotGood s.slots v = false ↔ unusable := slotGood_eq_false_iff
    refine ⟨fun h => refused ?_, fun h => refused ?_, fun hpaired husable => ?_⟩
    · rw [howner, stageSetting, removeOldest_settings, hunpaired.mpr h]
      rfl
    · have hprofile : pairingGood s.settings.staged v = true := by
        obtain ⟨i, rfl, -⟩ := h
        rfl
      rw [howner, stageSetting, removeOldest_settings, removeOldest_slots, hprofile, hunusable.mpr h]
      rfl
    · obtain ⟨hsame, hflag⟩ := s.settings.write_same v
      refine ⟨s.settings.write v, rfl, rfl, hnumber ▸ hsame, hnumber ▸ hflag,
        fun m hm => s.settings.write_other v (hnumber.symm ▸ hm), ?_⟩
      refine congrArg Host.Outcome.next (takeRequest_of_answer ht hlength (t := s.setSettings (s.settings.write v)) ?_)
      have hbyte : leBytes 1 n.toNat = [n] := by simp [leBytes]
      rw [howner, stageSetting_of_good (s := s.removeOldest)
        (Bool.eq_true_of_not_eq_false (hunpaired.not.mpr hpaired))
        (Bool.eq_true_of_not_eq_false (hunusable.not.mpr husable)), hnumber, hbyte]
      rfl

/-! ### STAGE_APPLY (R17, R130, R131) -/

/-- At a moment of effect the parameters whose flag is set take their staged value and the others keep theirs (R131). -/
theorem merged_getElem? (x : Settings) (m : Nat) :
    x.merged.toList[m]? = if x.changed.toList[m]? = some true then x.staged.toList[m]? else x.active.toList[m]? := by
  match m with
  | 0 | 1 | 2 | 3 | 4 | 5 | 6 | 7 | 8 | 9 =>
    simp only [Settings.merged, Params.toList, Changed.toList, List.getElem?_cons_succ, List.getElem?_cons_zero,
      Option.some.injEq]
    split <;> rfl
  | m + 10 => simp [Params.toList]

/-- The slots after an apply, by what the active PROFILE was and becomes (R17). -/
theorem applyNow_slots_get (s : State) (i : Fin 8) :
    s.applyNow.slots.get i =
      if s.settings.active.profile = s.settings.merged.profile then s.slots.get i
      else if s.settings.active.profile = some i then (s.slots.get i).leaveUse
      else if s.settings.merged.profile = some i then (s.slots.get i).enterUse
      else s.slots.get i := by
  rw [applyNow_eq]
  cases hchanged : s.settings.changed.profile with
  | false =>
    have hmerged : s.settings.merged.profile = s.settings.active.profile := by simp [Settings.merged, hchanged]
    simp only [Bool.false_eq_true, if_false, hmerged, if_true]
  | true =>
    have hmerged : s.settings.merged.profile = s.settings.staged.profile := by simp [Settings.merged, hchanged]
    simp only [if_true, hmerged, changeUse_get]

theorem removeOldest_applyNow (s : State) : s.removeOldest.applyNow = s.applyNow.removeOldest := rfl

theorem decodeAlignment_of_two_le {n : Nat} (h : 2 ≤ n) : decodeAlignment n = none := by
  match n, h with
  | n + 2, _ => rfl

theorem decodeAlignment_of_le_one {n : Byte} (h : n.toNat ≤ 1) :
    decodeAlignment n.toNat = some (if n = 1 then .band else .frame) := by
  have : n = 0 ∨ n = 1 := by
    rcases Nat.le_one_iff_eq_zero_or_eq_one.mp h with h | h
    · exact .inl (BitVec.eq_of_toNat_eq h)
    · exact .inr (BitVec.eq_of_toNat_eq h)
  rcases this with rfl | rfl <;> rfl

/-- The apply-pending state is raised to the sooner (R130). -/
theorem raise_eq (present : ApplyPending) (b : Prop) [Decidable b] :
    present.raise (if b then .band else .frame) = if b ∨ present = .band then .band else .frame := by
  by_cases hb : b <;> cases present <;> simp [hb, ApplyPending.raise]

/-- Settles O30: an apply changes the settings and the slots as R17 and R131 say, and STAGE_APPLY applies or waits by the stream
state. -/
theorem stageApplyTakesEffect : Obligations.StageApplyTakesEffect := by
  refine ⟨fun s => ⟨s.applyNow.slots, s.settings.merged, rfl, merged_getElem? s.settings, applyNow_slots_get s⟩,
    fun p => ⟨rfl, rfl⟩, fun q n s hq ht => ?_⟩
  have hlength : lengthAgrees 0x0F q.body.length = true := by rw [hq]; rfl
  have hfield : fieldAt q.body 0 1 = n.toNat := fieldAt_byte (by rw [hq]; rfl)
  refine ⟨fun hn => ?_, fun hn hstopped hinv => ⟨s.applyNow.slots, fun i => ?_, ?_⟩, fun hn hstream => ?_⟩
  · refine congrArg Host.Outcome.next (takeRequest_of_refusal ht hlength
      (show stageApplyOwner q s.removeOldest = answer .badValue [] s.removeOldest from ?_))
    simp only [stageApplyOwner, hfield, decodeAlignment_of_two_le hn, refuse]
  · rw [applyNow_slots_get, merged_eq_staged _ hinv.1]
  · have hafter : { s with
        slots := s.applyNow.slots
        settings := ⟨s.settings.staged, s.settings.staged, Changed.clear, .none⟩ } = s.applyNow := by
      rw [applyNow_eq, Settings.applied, merged_eq_staged _ hinv.1]
    rw [hafter]
    refine congrArg Host.Outcome.next (takeRequest_of_answer ht hlength ?_)
    simp only [stageApplyOwner, hfield, decodeAlignment_of_le_one hn]
    rw [if_pos (show s.removeOldest.pixel.stream = .stopped from hstopped), removeOldest_applyNow]
    rfl
  · intro raised
    have hraised : s.settings.apply.raise (if n = 1 then .band else .frame) = raised := raise_eq _ _
    refine congrArg Host.Outcome.next (takeRequest_of_answer ht hlength
      (t := s.setSettings { s.settings with apply := raised }) ?_)
    simp only [stageApplyOwner, hfield, decodeAlignment_of_le_one hn, removeOldest_pixel, if_neg hstream,
      removeOldest_settings, hraised, removeOldest_setSettings]
    rfl

/-! ### FRAMING_CAPTURE (R66) -/

/-- Settles O32. -/
theorem framingCaptureIsOwed : Obligations.FramingCaptureIsOwed := fun _ s hq ht =>
  congrArg Host.Outcome.next
    (takeRequest_of_answer (t := s.setPlanner { s.planner with captureOwed := true }) ht (by rw [hq]; rfl) rfl)

/-! ### STREAM_START and STREAM_STOP (R105, R106) -/

/-- Settles O43, by the stream state. -/
theorem streamStartsAndStops : Obligations.StreamStartsAndStops := by
  refine ⟨fun q s hq ht => ?_, fun q s hq ht => ?_⟩
  · have hlength : lengthAgrees 0x0B q.body.length = true := by rw [hq]; rfl
    refine ⟨fun hstopped hconfig => ?_, fun hstopped hconfig => ?_, fun hstream => ?_⟩
    · refine congrArg Host.Outcome.next (takeRequest_of_refusal ht hlength
        (show streamStartOwner s.removeOldest = answer .badState [] s.removeOldest from ?_))
      simp only [streamStartOwner, removeOldest_pixel, hstopped, hconfig]
      rfl
    · refine congrArg Host.Outcome.next (takeRequest_of_answer ht hlength
        (t := s.setPixel { s.pixel with stream := .waiting, skip := false, orphan := false }) ?_)
      simp only [streamStartOwner, removeOldest_pixel, hstopped, Option.isSome_iff_ne_none.mpr hconfig, if_true,
        removeOldest_setPixel]
    · refine congrArg Host.Outcome.next (takeRequest_of_refusal ht hlength ?_)
      unfold streamStartOwner
      split
      · rename_i hstopped; exact absurd hstopped hstream
      · rfl
  · have hlength : lengthAgrees 0x0C q.body.length = true := by rw [hq]; rfl
    have answered {x : PixelPath} (hx : s.pixel.stop = x) :
        exec (.streamStop q) s = .next ((s.setPixel x).answered (replyTo 0x0C q .ok [x.stream.code])) := by
      refine congrArg Host.Outcome.next (takeRequest_of_answer ht hlength ?_)
      rw [streamStopOwner, removeOldest_pixel, removeOldest_setPixel, hx]
    refine ⟨fun hwaiting => answered ?_, fun hframe => answered ?_, fun hother => answered (x := s.pixel) ?_⟩
    · rw [PixelPath.stop, hwaiting]
    · rw [PixelPath.stop, hframe]
    · rcases hother with h | h <;> rw [PixelPath.stop, h]

/-! ### RAMP (R138 to R141) -/

/-- What a form makes of the ramps that a selector names (R138). -/
def RampUnit.acted (u : RampUnit) (selector : Nat) (f : Ramp → Ramp) : RampUnit :=
  ⟨if selector = 1 then u.breathing else f u.breathing, if selector = 0 then u.shading else f u.shading, u.fade⟩

theorem decodeSelector_of_two_lt {n : Nat} (h : 2 < n) : decodeSelector n = none := by
  match n, h with
  | n + 3, _ => rfl

theorem decodeRamp_of_three_lt {form : Nat} (h : 3 < form) (target total : Nat) : decodeRamp form target total = none := by
  match form, h with
  | form + 4, _ => rfl

theorem decodeRamp_of_bad {form target total : Nat} (hform : form ≤ 2) (h : 256 < target ∨ 4095 < total) :
    decodeRamp form target total = none := by
  have hbad : decide (target ≤ 256 ∧ total ≤ 4095) = false := decide_eq_false (by omega)
  match form, hform with
  | 0, _ | 1, _ | 2, _ => simp only [decodeRamp, hbad, Bool.false_eq_true, if_false]

section RampRequest

variable {q : Request} {s : State} (hl : q.body.length = 6) (ht : s.takes ⟨0x13, q.tag, q.body⟩ = true)
include hl ht

omit ht in
theorem rampFits_iff {form : Nat} : rampFits form q = true ↔ fieldAt q.body 1 1 = form ∨ 3 < fieldAt q.body 1 1 := by
  simp [rampFits, rampForm, hl]

/-- A RAMP request of a selector and a command in range acts on the ramps that the selector names (R138). -/
theorem takeRamp_acts {form : Nat} (hform : fieldAt q.body 1 1 = form) (hselector : fieldAt q.body 0 1 ≤ 2)
    {command : RampCommand} (hcommand : decodeRamp form (fieldAt q.body 2 2) (fieldAt q.body 4 2) = some command) :
    takeRamp form q s =
      ({ s with ramps := s.ramps.acted (fieldAt q.body 0 1) (·.obey command) }.answered (replyTo 0x13 q .ok
        ((if fieldAt q.body 0 1 = 1 then [] else rampReply s.ramps.breathing command)
          ++ (if fieldAt q.body 0 1 = 0 then [] else rampReply s.ramps.shading command)
          ++ leBytes 2 s.ramps.fade
          ++ leBytes 2 (s.ramps.acted (fieldAt q.body 0 1) (·.obey command)).kb
          ++ leBytes 2 (s.ramps.acted (fieldAt q.body 0 1) (·.obey command)).kv))) := by
  have hfits : rampFits form q = true := (rampFits_iff hl).mpr (.inl hform)
  rw [takeRamp, if_pos hfits]
  refine takeRequest_of_answer (t := s.setRamps (s.ramps.acted (fieldAt q.body 0 1) (·.obey command))) ht
    (by rw [hl]; rfl) ?_
  unfold rampOwner
  rw [hform, hcommand]
  generalize fieldAt q.body 0 1 = selector at hselector ⊢
  match selector, hselector with
  | 0, _ | 1, _ | 2, _ => simp [decodeSelector, rampFields, RampUnit.acted, RampUnit.select]; rfl

/-- A RAMP request with a field out of range, or of a form not coded, is refused (R138). -/
theorem takeRamp_refused {form : Nat} (hfits : rampFits form q = true)
    (h : decodeSelector (fieldAt q.body 0 1) = none ∨
      decodeRamp (fieldAt q.body 1 1) (fieldAt q.body 2 2) (fieldAt q.body 4 2) = none) :
    takeRamp form q s = s.answered (replyTo 0x13 q .badValue []) := by
  rw [takeRamp, if_pos hfits]
  refine takeRequest_of_refusal ht (by rw [hl]; rfl) (show _ = refuse .badValue s.removeOldest from ?_)
  unfold rampOwner
  rcases h with h | h
  · rw [h]
  · rw [h]
    cases decodeSelector (fieldAt q.body 0 1) <;> rfl

end RampRequest

/-- Settles O34, by the form of the request and the ramps that its selector names. -/
theorem rampRequestsAct : Obligations.RampRequestsAct := by
  intro q s hl ht selector form target total acted outcome
  have acts {n : Nat} {command : RampCommand} (hform : form = n) (hselector : selector ≤ 2)
      (hcommand : decodeRamp n target total = some command) :=
    congrArg (Host.Outcome.next (φ := Fault) (ρ := Refusal)) (takeRamp_acts hl ht hform hselector hcommand)
  refine ⟨fun hselector htarget htotal => ⟨fun hform => ?_, fun hform => ?_, fun hform => ?_⟩, fun hselector hform => ?_,
    fun hbad c hc hwf => ?_⟩
  · exact acts (command := .buffer .continue target total) hform hselector (by simp [decodeRamp, htarget, htotal])
  · exact acts (command := .buffer .restart target total) hform hselector (by simp [decodeRamp, htarget, htotal])
  · exact acts (command := .now target total) hform hselector (by simp [decodeRamp, htarget, htotal])
  · exact acts (command := .halt) hform hselector rfl
  · have hnone : decodeSelector selector = none ∨ decodeRamp form target total = none := by
      rcases hbad with h | h | ⟨hform, h⟩
      · exact .inl (decodeSelector_of_two_lt h)
      · exact .inr (decodeRamp_of_three_lt h _ _)
      · exact .inr (decodeRamp_of_bad hform h)
    have refused {n : Nat} (hfits : (q.wf && rampFits n q) = true) :=
      congrArg (Host.Outcome.next (φ := Fault) (ρ := Refusal))
        (takeRamp_refused hl ht (Bool.and_eq_true_iff.mp hfits).2 hnone)
    simp only [List.mem_cons, List.not_mem_nil, or_false] at hc
    rcases hc with rfl | rfl | rfl | rfl <;> exact refused hwf

/-! ### SUBSCRIBE (R158, R162) -/

/-- Settles O18: the two bytes of the set, of which the second must be 0. -/
theorem subscribeReplacesTheSet : Obligations.SubscribeReplacesTheSet := by
  intro q lo hi s hq ht
  have hlength : lengthAgrees 0x03 q.body.length = true := by rw [hq]; rfl
  have hfield : fieldAt q.body 0 2 = lo.toNat + 256 * hi.toNat := by rw [hq]; rfl
  refine ⟨fun hhi => ?_, fun hhi => ?_⟩
  · have hpos : hi.toNat ≠ 0 := fun h => hhi (BitVec.eq_of_toNat_eq h)
    refine congrArg Host.Outcome.next (takeRequest_of_refusal ht hlength
      (show subscribeOwner q s.removeOldest = answer .badValue [] s.removeOldest from ?_))
    simp only [subscribeOwner, hfield]
    rw [if_pos (by omega), refuse]
  · intro removed notices
    subst hhi
    have hlo : lo.toNat < 256 := lo.isLt
    refine congrArg Host.Outcome.next (takeRequest_of_answer ht hlength
      (t := { s with control := { s.control with subscriptions := lo }, notices }) ?_)
    have hnew : BitVec.ofNat 8 (lo.toNat + 256 * (0 : Byte).toNat) = lo := by simp
    simp only [subscribeOwner, hfield]
    rw [if_neg (by simp; omega), hnew]
    have hnotices : s.notices.resubscribe s.control.subscriptions lo = notices := rfl
    rw [removeOldest_notices, removeOldest_subscriptions, hnotices]
    have hrestarted : notices.restarted = s.notices.restarted := by
      dsimp only [notices]
      split <;> rfl
    have houtstanding : State.restartedOutstanding
        { s with control := { s.control with subscriptions := lo }, notices } = s.restartedOutstanding := by
      simp only [State.restartedOutstanding, hrestarted]
    have hstate : State.removeOldest { s with control := { s.control with subscriptions := lo }, notices } =
        (s.removeOldest.setNotices notices).setControl { s.removeOldest.control with subscriptions := lo } := by
      rw [State.removeOldest, houtstanding]
      rfl
    rw [hstate]
    rfl

end Sys2Proof.Machine

/-! PROOFS. The control link stays consistent and the saturating counts stay within 16 bits (R29, R120, R158, R185 to R189, R193).
First what the receiver keeps of the control link, then what each command does to the ready line and to the counts. -/

namespace Sys2Proof.Machine

/-! ### What the receiver of the control link keeps -/

/-- A property of the control link that every turn of its receiver keeps, where a record enters the inbound buffer only with
`Room` in it. -/
structure ReceiverClosed (Room : List Record → Prop) (P : ControlLink → Prop) : Prop where
  moved           : ∀ {c} (x), P c → P { c with receiver := x }
  countedCrc      : ∀ {c}, P c → P c.countCrc
  countedNotReady : ∀ {c}, P c → P c.countNotReady
  entered         : ∀ {c} (r), P c → Room c.inbound → P (c.enter r)
  room            : ∀ {c}, P c → c.ready = true → Room c.inbound

section Receiver

variable {Room : List Record → Prop} {P : ControlLink → Prop} (h : ReceiverClosed Room P)

/-- What the receiver leaves: the property, and room for the record that it is receiving. -/
def Received (Room : List Record → Prop) (P : ControlLink → Prop) (c : ControlLink) : Prop :=
  P c ∧ (c.receiver.isReceiving = true → Room c.inbound)

include h

theorem receive_received {next : List Byte → ControlLink → ControlLink}
    (hnext : ∀ bytes c, P c → Received Room P (next bytes c)) (bytes : List Byte) {c : ControlLink} (hc : P c)
    (hroom : Room c.inbound) : Received Room P (c.receive next bytes) := by
  unfold ControlLink.receive
  split
  · exact ⟨h.moved _ hc, fun _ => hroom⟩
  · exact hnext _ _ (h.countedCrc hc)
  · exact hnext _ _ (h.entered _ hc hroom)

theorem pass_received {next : List Byte → ControlLink → ControlLink}
    (hnext : ∀ bytes c, P c → Received Room P (next bytes c)) (bytes : List Byte) {c : ControlLink} (hc : P c) :
    Received Room P (c.pass next bytes) := by
  unfold ControlLink.pass
  split
  · exact ⟨h.moved _ hc, nofun⟩
  · exact hnext _ _ hc
  · exact hnext _ _ hc

theorem hunt_received (n : Nat) (bytes : List Byte) {c : ControlLink} (hc : P c) :
    Received Room P (ControlLink.hunt n bytes c) := by
  induction n generalizing bytes c with
  | zero => exact ⟨h.moved _ hc, nofun⟩
  | succ n ih =>
    cases bytes with
    | nil => exact ⟨h.moved _ hc, nofun⟩
    | cons b bytes =>
      unfold ControlLink.hunt
      split
      · exact ih bytes hc
      · split
        · rename_i hready
          exact receive_received h (fun _ _ hd => ih _ hd) bytes hc (h.room hc hready)
        · exact pass_received h (fun _ _ hd => ih _ hd) bytes (h.countedNotReady hc)

theorem feed_received {c : ControlLink} (hc : Received Room P c) (bytes : List Byte) : Received Room P (c.feed bytes) := by
  obtain ⟨hp, hroom⟩ := hc
  have hnext : ∀ bytes d, P d → Received Room P (ControlLink.huntAll bytes d) := fun bytes _ hd => hunt_received h _ bytes hd
  unfold ControlLink.feed
  split
  · exact hnext bytes c hp
  · rename_i got hreceiver
    exact receive_received h hnext _ hp (hroom (by rw [hreceiver]; rfl))
  · exact pass_received h hnext _ hp

end Receiver

/-- The control link within its capacities, where `accepts` says whether the part accepts requests and `sending` what is being
sent: ready is asserted exactly where requests are accepted and fewer than eight records wait (R185, R186). -/
def ControlLink.Ready (accepts : Prop) (sending : Option Sending) (c : ControlLink) : Prop :=
  c.inbound.length ≤ 8 ∧ c.replies.length ≤ 16 ∧ (c.ready = true ↔ accepts ∧ c.inbound.length < 8) ∧ c.sending = sending

theorem receiverClosed_ready (accepts : Prop) (sending : Option Sending) :
    ReceiverClosed (·.length ≤ 7) (ControlLink.Ready accepts sending) where
  moved _ hc := hc
  countedCrc hc := hc
  countedNotReady hc := hc
  entered {c} r := by
    rintro ⟨-, hreplies, hready, hsending⟩ (hroom : c.inbound.length ≤ 7)
    have hlength : (c.inbound ++ [r]).length = c.inbound.length + 1 := List.length_append
    refine ⟨by change (c.inbound ++ [r]).length ≤ 8; omega, hreplies, ?_, hsending⟩
    change (if c.inbound.length + 1 < 8 then c.ready else false) = true ↔ accepts ∧ (c.inbound ++ [r]).length < 8
    rw [hlength]
    split
    · rw [hready]
      exact and_congr_right fun _ => by omega
    · exact ⟨nofun, fun h => by omega⟩
  room := by
    rintro c ⟨-, -, hready, -⟩ h
    exact Nat.le_of_lt_succ (hready.mp h).2

/-- The counts of the control link are within 16 bits (R187). -/
def ControlLink.CountOk (c : ControlLink) : Prop := c.crcFailures ≤ 65535 ∧ c.notReady ≤ 65535

theorem saturatingSucc_countMax_le {n : Nat} (h : n ≤ 65535) : saturatingSucc Config.countMax n ≤ 65535 := by
  unfold saturatingSucc
  split
  · assumption
  · exact h

theorem receiverClosed_countOk : ReceiverClosed (fun _ => True) ControlLink.CountOk where
  moved _ hc := hc
  countedCrc := fun ⟨hcrc, hnotReady⟩ => ⟨saturatingSucc_countMax_le hcrc, hnotReady⟩
  countedNotReady := fun ⟨hcrc, hnotReady⟩ => ⟨hcrc, saturatingSucc_countMax_le hnotReady⟩
  entered _ hc _ := hc
  room _ _ := trivial

/-! ### The lens link -/

/-- Bytes on the lens link touch the lens link and the intake alone (R193). -/
theorem lensBytes_leaves (s : State) (bytes : List Byte) :
    { s.lensBytes bytes with lens := s.lens, intake := s.intake } = s := by
  have hevent (t : State) (e : Option Record) (ht : { t with lens := s.lens, intake := s.intake } = s) :
      { t.lensEvent e with lens := s.lens, intake := s.intake } = s := by
    unfold State.lensEvent
    split <;> exact ht
  unfold State.lensBytes
  split
  · exact List.foldlRecOn (motive := fun t : State => { t with lens := s.lens, intake := s.intake } = s) _ _ rfl
      fun t ht e _ => hevent t e ht
  · rfl

/-! ### The notice that is sent -/

theorem firstHighest_mem {s : State} {o : Offer} : ∀ {xs : List Offer}, s.firstHighest xs = some o → o ∈ xs
  | [], h => nomatch h
  | x :: xs, h => by
    unfold State.firstHighest at h
    split at h
    · split at h
      · exact List.mem_cons_of_mem _ (firstHighest_mem (by rwa [← h]))
      · exact List.mem_cons.mpr (.inl (Option.some.inj h).symm)
    · exact List.mem_cons.mpr (.inl (Option.some.inj h).symm)

/-- The notice offered is eligible, so it is owed (R159). -/
theorem offered_eligible {s : State} {o : Offer} (h : s.offered = some o) : s.eligible o = true :=
  (List.mem_filter.mp (firstHighest_mem h)).2

theorem offered_owes {s : State} {o : Offer} (h : s.offered = some o) : s.owes o = true :=
  (Bool.and_eq_true_iff.mp (offered_eligible h)).1

/-- Of the notices RESTARTED alone has kind 0x40 (R158). -/
theorem notice_kind_iff (s : State) (o : Offer) : ((s.notice o).kind == 0x40) = decide (o = .restarted) := by
  cases o <;> rfl

/-! ### The control link -/

section Link

variable {s t : State}

theorem restartedOutstanding_eq (s : State) :
    s.restartedOutstanding = (s.notices.restarted || sendingRestarted s.control.sending) := by
  unfold State.restartedOutstanding sendingRestarted
  rcases s.control.sending with _ | _ | _ <;> rfl

/-- Ready speaks of the supply, of a reset under way, of the control link and of the RESTARTED flag alone. -/
theorem linkInv_of_eq {subscriptions : BitVec 8} (hs : s.LinkInv)
    (hcontrol : t.control = { s.control with subscriptions := subscriptions }) (hrunning : t.running = s.running)
    (hrestarted : t.notices.restarted = s.notices.restarted) : t.LinkInv := by
  unfold State.LinkInv
  rw [restartedOutstanding_eq, hrestarted, hcontrol, hrunning]
  unfold State.LinkInv at hs
  rwa [restartedOutstanding_eq] at hs

/-- A control link that a reset or a loss of power has emptied is consistent (R186, R194). -/
theorem linkInv_of_emptied {subscriptions : BitVec 8} (hcontrol : t.control = ⟨.hunting, [], false, [], none, 0, 0, subscriptions⟩)
    (hrunning : t.running = false) : t.LinkInv := by
  unfold State.LinkInv
  rw [hcontrol, hrunning]
  simp [Receiver.isReceiving, sendingRestarted]

/-- No packet touches the RESTARTED flag (R179). -/
theorem packetClosed_restarted (b : Bool) : PacketClosed fun t => t.notices.restarted = b where
  pixel _ ht := ht
  outputs _ ht := ht
  planner _ ht := ht
  watches _ ht := ht
  faulted kind frame row {t} := by
    intro ht
    unfold State.reportFault
    split <;> exact ht
  applied ht := ht
  evaluated _ ht := ht
  captured m {t} ht := by
    unfold State.takeCapture
    split <;> exact ht
  handedOver {t f} _ ht := by
    rw [handOver_eq]
    exact ht
  streamed ht := ht
  announced ht := ht

/-- The answered taking of a record: the record leaves the buffer, ready is asserted again where that makes room, and the reply
queue had a free entry (R186, R188). -/
theorem answered_linkInv {r reply : Record} (hs : s.LinkInv) (ht : s.takes r = true) : (s.answered reply).LinkInv := by
  obtain ⟨hinbound, hreplies, -, hready, hidle, hsending⟩ := hs
  obtain ⟨hrunning, hfree, -⟩ := takes_iff.mp ht
  have hrun : (s.answered reply).running = s.running := rfl
  have hout : (s.answered reply).restartedOutstanding = s.restartedOutstanding := rfl
  have htail : s.control.inbound.tail.length ≤ 7 := by rw [List.length_tail]; omega
  refine ⟨by change s.control.inbound.tail.length ≤ 8; omega, ?_, fun _ => htail, ?_, hidle, hsending⟩
  · change (s.control.replies ++ [reply]).length ≤ 16
    rw [List.length_append]
    exact hfree
  · rw [hrun, hout]
    change (s.control.ready || (decide (s.control.inbound.length = 8) && !s.restartedOutstanding)) = true ↔
      s.running = true ∧ s.control.inbound.tail.length < 8 ∧ s.restartedOutstanding = false
    rw [Bool.or_eq_true, hready]
    simp only [hrunning, Bool.and_eq_true, decide_eq_true_eq, Bool.not_eq_true']
    constructor
    · rintro (⟨-, -, hnot⟩ | ⟨-, hnot⟩) <;> exact ⟨trivial, by omega, hnot⟩
    · rintro ⟨-, -, hnot⟩
      rcases Nat.lt_or_ge s.control.inbound.length 8 with hlt | hge
      · exact .inl ⟨trivial, hlt, hnot⟩
      · exact .inr ⟨by omega, hnot⟩

/-- Of the notice state the owner of a request leaves the RESTARTED flag (R179). -/
theorem State.Deed.restarted {r : Record} (h : s.Deed r t) : t.notices.restarted = s.notices.restarted := by
  cases h with
  | subscribed new =>
    change (s.notices.resubscribe s.control.subscriptions new).restarted = s.notices.restarted
    unfold Notices.resubscribe
    split <;> rfl
  | streamRestarted => exact (packetClosed_restarted s.notices.restarted).streamRestart rfl
  | _ => rfl

theorem Answer.Of.restarted {r : Record} {a : Answer} (h : a.Of r s) : a.state.notices.restarted = s.notices.restarted := by
  cases h with
  | done _ hdeed => exact hdeed.restarted
  | _ => rfl

theorem Answer.Of.running {r : Record} {a : Answer} (h : a.Of r s) : a.state.running = s.running := by
  unfold State.running
  rw [h.resetRun, show a.state.powered = s.powered from (congrArg LinkSide.powered h.linkSide :)]

theorem beginReset_linkInv (s : State) (run : ResetRun) (line : Bool) : ((s.beginReset run).setResetLine line).LinkInv := by
  rw [beginReset_eq]
  exact linkInv_of_emptied rfl (Bool.and_false _)

theorem taken_linkInv {r : Record} (hs : s.LinkInv) (ht : s.takes r = true) (h : s.Taken r t) : t.LinkInv := by
  cases h with
  | unknown _ => exact answered_linkInv hs ht
  | wrongLength _ _ => exact answered_linkInv hs ht
  | @answered a _ _ _ ha =>
    have hcontrol := ha.control
    rw [removeOldest_eq] at hcontrol
    refine linkInv_of_eq (answered_linkInv (reply := ⟨r.kind + 0x80, r.tag, a.body⟩) hs ht)
      (subscriptions := a.state.control.subscriptions) ?_ ha.running ha.restarted
    change { a.state.control with
      replies := a.state.control.replies ++ [(⟨r.kind + 0x80, r.tag, a.body⟩ : Record)] } = _
    rw [hcontrol]
    rfl
  | begun _ => exact beginReset_linkInv s.removeOldest _ _

theorem controlBytes_linkInv (hs : s.LinkInv) (bytes : List Byte) : (s.controlBytes bytes).LinkInv := by
  obtain ⟨hinbound, hreplies, hreceiving, hready, hidle, hsending⟩ := hs
  unfold State.controlBytes
  split
  · obtain ⟨⟨hinbound', hreplies', hready', hsame⟩, hreceiving'⟩ :=
      feed_received (receiverClosed_ready (s.running = true ∧ s.restartedOutstanding = false) s.control.sending)
        (c := s.control) ⟨⟨hinbound, hreplies, hready.trans (by tauto), rfl⟩, hreceiving⟩ bytes
    have hout : (s.setControl (s.control.feed bytes)).restartedOutstanding = s.restartedOutstanding := by
      rw [restartedOutstanding_eq, restartedOutstanding_eq]
      exact congrArg (s.notices.restarted || sendingRestarted ·) hsame
    refine ⟨hinbound', hreplies', hreceiving', ?_, fun h => hsame.trans (hidle h), fun h => hsending ?_⟩
    · rw [hout]
      exact hready'.trans (by
        change _ ↔ s.running = true ∧ _
        tauto)
    · rw [← hsame]
      exact h
  · exact ⟨hinbound, hreplies, hreceiving, hready, hidle, hsending⟩

/-- The start of the sending of a record that leaves RESTARTED as outstanding as it was. -/
theorem startSending_linkInv {x : Sending} (hs : s.LinkInv) (hfree : s.lineFree = true) (hcontrol : t.control = s.control)
    (hrunning : t.running = s.running) (hout : (t.startSending x).restartedOutstanding = s.restartedOutstanding)
    (hsent : sendingRestarted (some x) = true → t.notices.restarted = false) : (t.startSending x).LinkInv := by
  obtain ⟨hinbound, hreplies, hreceiving, hready, -, -⟩ := hs
  have hrun : (t.startSending x).running = s.running := hrunning
  unfold State.LinkInv
  rw [hrun, hout]
  simp only [State.startSending, State.setControl_control, hcontrol]
  refine ⟨hinbound, hreplies, hreceiving, hready, fun h => ?_, hsent⟩
  rw [State.lineFree, h] at hfree
  cases hfree

theorem sendReply_linkInv (hs : s.LinkInv) : s.sendReply.LinkInv := by
  unfold State.sendReply
  split
  · rename_i hfree _
    have hnone : s.control.sending = none := Option.isNone_iff_eq_none.mp (Bool.and_eq_true_iff.mp hfree).2
    refine startSending_linkInv hs hfree rfl rfl ?_ nofun
    rw [restartedOutstanding_eq, restartedOutstanding_eq, hnone]
    rfl
  · exact hs

/-- The clearing of a notice's flag leaves the RESTARTED flag alone, unless it is that of RESTARTED (R160). -/
theorem clearOffer_restarted (s : State) (o : Offer) :
    (s.clearOffer o).notices.restarted = if o = .restarted then false else s.notices.restarted := by
  cases o <;> rfl

theorem clearOffer_linkSide (s : State) (o : Offer) : (s.clearOffer o).linkSide = s.linkSide := by
  cases o <;> rfl

theorem sendNotice_linkInv (hs : s.LinkInv) : s.sendNotice.LinkInv := by
  unfold State.sendNotice
  split
  · rename_i o hidle ho
    have hfree : s.lineFree = true := (Bool.and_eq_true_iff.mp hidle).1
    have hnone : s.control.sending = none := Option.isNone_iff_eq_none.mp (Bool.and_eq_true_iff.mp hfree).2
    have hkind : sendingRestarted (some (.notice (s.notice o))) = decide (o = .restarted) := notice_kind_iff s o
    have hcleared := clearOffer_restarted s o
    have hside := clearOffer_linkSide s o
    refine startSending_linkInv hs hfree (congrArg LinkSide.control hside) (running_eq_of_linkSide_eq hside) ?_ ?_
    · rw [restartedOutstanding_eq, restartedOutstanding_eq, hnone]
      change ((s.clearOffer o).notices.restarted || sendingRestarted (some (.notice (s.notice o)))) = _
      rw [hcleared, hkind]
      by_cases h : o = .restarted
      · have howed : s.notices.restarted = true := by
          rw [h] at ho
          exact offered_owes ho
        simp [h, howed]
      · simp [h, sendingRestarted]
    · rw [hkind, hcleared]
      intro h
      rw [if_pos (of_decide_eq_true h)]
  · exact hs

theorem sendEnd_linkInv (hs : s.LinkInv) : s.sendEnd.LinkInv := by
  obtain ⟨hinbound, hreplies, hreceiving, hready, hidle, hsending⟩ := hs
  rw [restartedOutstanding_eq] at hready
  unfold State.sendEnd
  split
  · rename_i r hrunning hsent
    rw [hsent] at hready
    refine ⟨hinbound, ?_, hreceiving, ?_, fun _ => rfl, nofun⟩
    · change s.control.replies.tail.length ≤ 16
      rw [List.length_tail]
      omega
    · rw [restartedOutstanding_eq]
      exact hready
  · rename_i r hrunning hsent
    rw [hsent] at hready hsending
    refine ⟨hinbound, hreplies, hreceiving, ?_, fun _ => rfl, nofun⟩
    rw [restartedOutstanding_eq]
    change (if r.kind = 0x40 then decide (s.control.inbound.length < 8) else s.control.ready) = true ↔
      s.running = true ∧ s.control.inbound.length < 8 ∧ (s.notices.restarted || false) = false
    by_cases hkind : r.kind = 0x40
    · have hcleared : s.notices.restarted = false := hsending (beq_iff_eq.mpr hkind)
      simp [hkind, hrunning, hcleared]
    · rw [if_neg hkind]
      have hother : sendingRestarted (some (.notice r)) = false := beq_eq_false_iff_ne.mpr hkind
      rwa [hother] at hready
  · exact ⟨hinbound, hreplies, hreceiving, by rwa [restartedOutstanding_eq], hidle, hsending⟩

/-- The end of a device-level reset leaves ready deasserted, for RESTARTED is then outstanding (R179, R186). -/
theorem finishReset_linkInv (hs : s.LinkInv) (hreset : s.resetRun.isSome = true) (run : ResetRun) :
    (s.finishReset run).LinkInv := by
  obtain ⟨hinbound, hreplies, hreceiving, hready, hidle, hsending⟩ := hs
  have hstopped : s.running = false := by
    unfold State.running
    rw [Option.isNone_eq_false_iff.mpr hreset, Bool.and_false]
  have hnone := hidle hstopped
  have hlow : s.control.ready = false := Bool.eq_false_iff.mpr fun h => by
    rw [(hready.mp h).1] at hstopped
    cases hstopped
  have finished {t : State} {subscriptions : BitVec 8}
      (hcontrol : t.control = { s.control with subscriptions := subscriptions }) (hout : t.notices.restarted = true) :
      t.LinkInv := by
    unfold State.LinkInv
    rw [restartedOutstanding_eq, hout, hcontrol]
    refine ⟨hinbound, hreplies, hreceiving, ?_, fun _ => hnone, fun h => ?_⟩
    · rw [hlow]
      simp
    · rw [hnone] at h
      cases h
  unfold State.finishReset
  dsimp only
  split
  · exact finished (subscriptions := s.control.subscriptions) rfl rfl
  · exact finished (subscriptions := 0) rfl rfl

theorem State.Does.linkInv {c : Instr} (hs : s.LinkInv) (h : s.Does c t) : t.LinkInv := by
  cases h with
  | idle => exact hs
  | taken _ ht htaken => exact taken_linkInv hs ht htaken
  | controlBytes bytes => exact controlBytes_linkInv hs bytes
  | lensBytes bytes =>
    rw [← lensBytes_leaves s bytes] at hs
    exact hs
  | packet _ hpacket =>
    exact linkInv_of_eq hs (congrArg LinkSide.control hpacket.linkSide) (running_eq_of_linkSide_eq hpacket.linkSide)
      ((packetClosed_restarted s.notices.restarted).packet rfl hpacket)
  | sendReply => exact sendReply_linkInv hs
  | sendNotice => exact sendNotice_linkInv hs
  | sendEnd => exact sendEnd_linkInv hs
  | poweredOn _ _ => exact linkInv_of_emptied rfl rfl
  | powerLost _ _ => exact linkInv_of_emptied rfl rfl
  | @lineAsserted run _ => exact beginReset_linkInv s run true
  | lineMoved x => exact hs
  | lineReleased _ _ hreset => exact finishReset_linkInv (s := s.setResetLine false) hs hreset _
  | resetEnded _ _ hreset => exact finishReset_linkInv hs hreset _

end Link

/-! ### The saturating counts -/

theorem forall_mem_of_eq_none {α : Type} {x : Option α} {p : α → Prop} (h : x = none) : ∀ a ∈ x, p a := by
  rw [h]
  exact nofun

section Counts

variable {s t : State}

theorem packetClosed_countInv : PacketClosed State.CountInv where
  pixel {t x} hx := fun ⟨hcrc, hnotReady, hlens, hmount, hmotor, hpanel, hframes, hframe, hretained⟩ =>
    ⟨hcrc, hnotReady, hlens, hmount, hmotor, hpanel, hframes, hx hframe, hretained⟩
  outputs _ ht := ht
  planner _ ht := ht
  watches _ ht := ht
  faulted kind frame row {t} := by
    intro ht
    unfold State.reportFault
    split <;> exact ht
  applied ht := ht
  evaluated _ ht := ht
  captured m {t} ht := by
    unfold State.takeCapture
    split <;> exact ht
  handedOver {t f} hf := by
    rintro ⟨hcrc, hnotReady, hlens, hmount, hmotor, hpanel, hframes, hframe, hretained⟩
    rw [handOver_eq]
    refine ⟨hcrc, hnotReady, hlens, hmount, hmotor, hpanel, saturatingSucc_countMax_le hframes, hframe, fun r hr => ?_⟩
    replace hr : r ∈ if t.control.subscriptions.getLsbD 7 then some f.report else t.notices.retained := hr
    split at hr
    · obtain rfl := Option.some.inj hr
      exact hframe f hf
    · exact hretained r hr
  streamed ht := ht
  announced ht := ht

theorem outOfOrder_le {n : Intake}
    (h : n.outOfOrder.mount ≤ 65535 ∧ n.outOfOrder.motor ≤ 65535 ∧ n.outOfOrder.panel ≤ 65535) (k : Source) (x : Sample) :
    (n.take k x).outOfOrder.mount ≤ 65535 ∧ (n.take k x).outOfOrder.motor ≤ 65535 ∧
      (n.take k x).outOfOrder.panel ≤ 65535 := by
  obtain ⟨hmount, hmotor, hpanel⟩ := h
  unfold Intake.take
  dsimp only
  split
  · exact ⟨hmount, hmotor, hpanel⟩
  · cases k with
    | mount => exact ⟨saturatingSucc_countMax_le hmount, hmotor, hpanel⟩
    | motor => exact ⟨hmount, saturatingSucc_countMax_le hmotor, hpanel⟩
    | panel => exact ⟨hmount, hmotor, saturatingSucc_countMax_le hpanel⟩

theorem setIntake_countInv (hs : s.CountInv) (k : Source) (x : Sample) : (s.setIntake (s.intake.take k x)).CountInv := by
  obtain ⟨hcrc, hnotReady, hlens, hmount, hmotor, hpanel, hrest⟩ := hs
  obtain ⟨hmount', hmotor', hpanel'⟩ := outOfOrder_le ⟨hmount, hmotor, hpanel⟩ k x
  exact ⟨hcrc, hnotReady, hlens, hmount', hmotor', hpanel', hrest⟩

theorem lensBytes_countInv (hs : s.CountInv) (bytes : List Byte) : (s.lensBytes bytes).CountInv := by
  have hevent (t : State) (e : Option Record) (ht : t.CountInv) : (t.lensEvent e).CountInv := by
    unfold State.lensEvent
    split
    · exact setIntake_countInv ht _ _
    · obtain ⟨hcrc, hnotReady, hlens, hrest⟩ := ht
      exact ⟨hcrc, hnotReady, saturatingSucc_countMax_le hlens, hrest⟩
  unfold State.lensBytes
  split
  · exact List.foldlRecOn (motive := State.CountInv) _ _ (show (s.setLens _).CountInv from hs) fun t ht e _ => hevent t e ht
  · exact hs

theorem controlBytes_countInv (hs : s.CountInv) (bytes : List Byte) : (s.controlBytes bytes).CountInv := by
  unfold State.controlBytes
  split
  · obtain ⟨hcrc, hnotReady, hrest⟩ := hs
    obtain ⟨⟨hcrc', hnotReady'⟩, -⟩ := feed_received receiverClosed_countOk ⟨⟨hcrc, hnotReady⟩, fun _ => trivial⟩ bytes
    exact ⟨hcrc', hnotReady', hrest⟩
  · exact hs

theorem State.Deed.countInv {r : Record} (hs : s.CountInv) (h : s.Deed r t) : t.CountInv := by
  cases h with
  | subscribed new =>
    obtain ⟨hcrc, hnotReady, hlens, hmount, hmotor, hpanel, hframes, hframe, hretained⟩ := hs
    have hkept : (s.notices.resubscribe s.control.subscriptions new).framesCount ≤ 65535 ∧
        ∀ x ∈ (s.notices.resubscribe s.control.subscriptions new).retained, x.saturation ≤ 65535 := by
      unfold Notices.resubscribe
      split
      · exact ⟨hframes, forall_mem_of_eq_none rfl⟩
      · exact ⟨hframes, hretained⟩
    exact ⟨hcrc, hnotReady, hlens, hmount, hmotor, hpanel, hkept.1, hframe, hkept.2⟩
  | pixel hx => exact packetClosed_countInv.pixelOf hs hx
  | sampled _ => exact setIntake_countInv hs _ _
  | streamRestarted => exact packetClosed_countInv.streamRestart hs
  | _ => exact hs

theorem Answer.Of.countInv {r : Record} {a : Answer} (hs : s.CountInv) (h : a.Of r s) : a.state.CountInv := by
  cases h with
  | refused _ _ => exact hs
  | outOfOrder _ _ => exact setIntake_countInv hs _ _
  | done _ hdeed => exact State.Deed.countInv hs hdeed

/-- The counts of a part whose links, intake and pixel path are at their reset values. -/
theorem beginReset_countInv (hs : s.CountInv) (run : ResetRun) (line : Bool) :
    ((s.beginReset run).setResetLine line).CountInv := by
  obtain ⟨-, -, -, hmount, hmotor, hpanel, hframes, -, hretained⟩ := hs
  rw [beginReset_eq]
  exact ⟨Nat.zero_le _, Nat.zero_le _, Nat.zero_le _, hmount, hmotor, hpanel, hframes, forall_mem_of_eq_none rfl, hretained⟩

theorem finishReset_countInv (hs : s.CountInv) (run : ResetRun) : (s.finishReset run).CountInv := by
  obtain ⟨hcrc, hnotReady, hlens, -⟩ := hs
  unfold State.finishReset
  dsimp only
  split <;> exact ⟨hcrc, hnotReady, hlens, Nat.zero_le _, Nat.zero_le _, Nat.zero_le _, Nat.zero_le _, forall_mem_of_eq_none rfl,
      forall_mem_of_eq_none rfl⟩

theorem clearOffer_countInv (hs : s.CountInv) (o : Offer) : (s.clearOffer o).CountInv := by
  cases o with
  | summary =>
    obtain ⟨hcrc, hnotReady, hlens, hmount, hmotor, hpanel, -, hrest⟩ := hs
    exact ⟨hcrc, hnotReady, hlens, hmount, hmotor, hpanel, Nat.zero_le _, hrest⟩
  | _ => exact hs

theorem State.Does.countInv {c : Instr} (hs : s.CountInv) (h : s.Does c t) : t.CountInv := by
  have blank : s.blank.CountInv :=
    ⟨Nat.zero_le _, Nat.zero_le _, Nat.zero_le _, Nat.zero_le _, Nat.zero_le _, Nat.zero_le _, Nat.zero_le _, forall_mem_of_eq_none rfl,
      forall_mem_of_eq_none rfl⟩
  cases h with
  | idle => exact hs
  | taken _ _ htaken =>
    cases htaken with
    | unknown _ => exact hs
    | wrongLength _ _ => exact hs
    | answered _ _ _ ha => exact Answer.Of.countInv (s := s.removeOldest) hs ha
    | begun _ => exact beginReset_countInv (s := s.removeOldest) hs _ _
  | controlBytes bytes => exact controlBytes_countInv hs bytes
  | lensBytes bytes => exact lensBytes_countInv hs bytes
  | packet _ hpacket => exact packetClosed_countInv.packet hs hpacket
  | sendReply =>
    unfold State.sendReply
    split <;> exact hs
  | sendNotice =>
    unfold State.sendNotice
    split
    · exact clearOffer_countInv hs _
    · exact hs
  | sendEnd =>
    unfold State.sendEnd
    split <;> exact hs
  | poweredOn _ _ => exact blank
  | powerLost _ _ => exact blank
  | @lineAsserted run _ => exact beginReset_countInv hs run true
  | lineMoved x => exact hs
  | lineReleased _ _ _ => exact finishReset_countInv (s := s.setResetLine false) hs _
  | resetEnded _ _ _ => exact finishReset_countInv hs _

end Counts

/-- Settles O12: of what a command can do, each keeps the ready line where R186 has it and each count within its bound. -/
theorem linkInvariantKept : Obligations.LinkInvariantKept := fun _ _ hstep =>
  ⟨fun hs => step_keeps (P := State.LinkInv) (fun _ _ hs => hs) (fun _ _ _ hs h => h.linkInv hs) hs hstep,
    fun hs => step_keeps (P := State.CountInv) (fun _ _ hs => hs) (fun _ _ _ hs h => h.countInv hs) hs hstep⟩

end Sys2Proof.Machine

/-! PROOFS. The emission of rows and the close of a frame, said once (R109, R111, R113, R114, R118 to R121): the state on the way
is the state after the last band plan, with the rows of R111 held, the finished plans gone from the queue, and the emitted rows
counted and put out. -/

namespace Sys2Proof.Machine

/-! ### A state that emits rows -/

/-- A report with emitted rows counted, each with its saturated samples (R173). -/
def FrameReport.addRows (r : FrameReport) (outs : List (List (Pixel × Nat))) : FrameReport :=
  outs.foldl (fun x out => x.addRow (out.map Prod.snd).sum) r

/-- What the output port puts out for rows of the frame `g`: its header, if that has not left, and the rows (R121). -/
def Frame.rowPackets (g : Frame) (outs : List (List (Pixel × Nat))) : List VideoPacket :=
  (if g.headerSent || outs.isEmpty then [] else [.header g.header]) ++ outs.map fun out => .row (out.map Prod.fst)

/-- The frame after rows have been emitted. -/
def Frame.emitted (g : Frame) (outs : List (List (Pixel × Nat))) : Frame :=
  ⟨g.header, g.headerSent || !outs.isEmpty, g.report.addRows outs⟩

/-- The state after the rows `outs` of the frame `g` have left, with these rows held and these plans queued. -/
def State.drained (u : State) (g : Frame) (store : List (Nat × Row)) (queue : List Plan)
    (outs : List (List (Pixel × Nat))) : State :=
  { u with
    pixel := { u.pixel with lineStore := store, frame := some (g.emitted outs) }
    planner := { u.planner with queue }
    outputs := { u.outputs with video := u.outputs.video ++ g.rowPackets outs } }

section Drained

variable {u : State} {g : Frame}

theorem FrameReport.addRows_concat (r : FrameReport) (outs : List (List (Pixel × Nat))) (out : List (Pixel × Nat)) :
    r.addRows (outs ++ [out]) = (r.addRows outs).addRow (out.map Prod.snd).sum := by
  simp [FrameReport.addRows]

theorem drained_nil (h : u.pixel.frame = some g) : u.drained g u.pixel.lineStore u.planner.queue [] = u := by
  obtain ⟨header, sent, report⟩ := g
  unfold State.drained Frame.emitted Frame.rowPackets
  simp [FrameReport.addRows, ← h]

theorem drained_emitRow (c : StreamConfig) (store : List (Nat × Row)) (queue : List Plan)
    (outs : List (List (Pixel × Nat))) (y : Nat) :
    (u.drained g store queue outs).emitRow c y =
      u.drained g store (queueAfterRow c queue y)
        (outs ++ [outputPixels c (rowPlan c queue y).1 (rowPlan c queue y).2 store y]) := by
  rw [emitRow_eq c y (f := g.emitted outs) rfl]
  have hpackets (out : List (Pixel × Nat)) :
      g.rowPackets outs ++ (if (g.emitted outs).headerSent then [] else [.header (g.emitted outs).header])
        ++ [.row (out.map Prod.fst)] = g.rowPackets (outs ++ [out]) := by
    obtain ⟨header, sent, report⟩ := g
    cases sent <;> cases outs <;> simp [Frame.rowPackets, Frame.emitted]
  have hframe (out : List (Pixel × Nat)) :
      (⟨g.header, true, (g.emitted outs).report.addRow (out.map Prod.snd).sum⟩ : Frame) = g.emitted (outs ++ [out]) := by
    simp [Frame.emitted, FrameReport.addRows_concat]
  unfold State.drained
  rw [← hpackets, ← hframe]
  simp [rowPixels, Frame.emitted]

theorem drained_storeRow (c : StreamConfig) (store : List (Nat × Row)) (queue : List Plan)
    (outs : List (List (Pixel × Nat))) (r : Nat) (row : Row) :
    (u.drained g store queue outs).storeRow c r row = u.drained g (storeRow c.depth store r row) queue outs := rfl

theorem drained_releaseBelow (store : List (Nat × Row)) (queue : List Plan) (outs : List (List (Pixel × Nat))) (bound : Nat) :
    (u.drained g store queue outs).releaseBelow bound = u.drained g (releaseRows bound store) queue outs := rfl

end Drained

/-! ### What a report counts of the emitted rows -/

/-- The emission of rows changes the two counts that it makes and nothing else of the report (R173). -/
theorem addRows_eq (r : FrameReport) (outs : List (List (Pixel × Nat))) :
    r.addRows outs = { r with rowsEmitted := r.rowsEmitted + outs.length, saturation := (r.addRows outs).saturation } := by
  induction outs using List.reverseRecOn with
  | nil => rfl
  | append_singleton outs out ih =>
    rw [FrameReport.addRows_concat, ih]
    simp [FrameReport.addRow, Nat.add_assoc]

theorem saturatingAdd_countMax {n k : Nat} (h : n ≤ 65535) : saturatingAdd Config.countMax n k = min 65535 (n + k) := by
  unfold saturatingAdd Config.countMax
  split
  · omega
  · omega

/-- The saturation count counts every saturated sample, up to its maximum (R120). -/
theorem addRows_saturation {r : FrameReport} (h : r.saturation ≤ 65535) (outs : List (List (Pixel × Nat))) :
    (r.addRows outs).saturation = min 65535 (r.saturation + (outs.map fun out => (out.map Prod.snd).sum).sum) := by
  induction outs using List.reverseRecOn with
  | nil => simp [FrameReport.addRows, h]
  | append_singleton outs out ih =>
    rw [FrameReport.addRows_concat, FrameReport.addRow, ih]
    simp only [List.map_append, List.sum_append, List.map_cons, List.map_nil, List.sum_singleton]
    rw [saturatingAdd_countMax (Nat.min_le_left _ _)]
    omega

/-! ### The rows held -/

/-- The rows from `lo` up to `hi`, where row `k` is `arrived k`. -/
def heldRows (arrived : Nat → Row) (lo hi : Nat) : List (Nat × Row) :=
  (List.range' lo (hi - lo)).map fun k => (k, arrived k)

section Held

variable {arrived : Nat → Row} {store : List (Nat × Row)} {lo hi : Nat}

theorem heldRows_fst : (heldRows arrived lo hi).map Prod.fst = List.range' lo (hi - lo) := by
  rw [heldRows, List.map_map]
  exact List.map_id'' (fun _ => rfl) _

theorem snd_of_mem_heldRows {e : Nat × Row} (h : e ∈ heldRows arrived lo hi) : e.2 = arrived e.1 := by
  obtain ⟨k, -, rfl⟩ := List.mem_map.mp h
  rfl

/-- A store is known from its indices and its rows. -/
theorem eq_heldRows (hindex : store.map Prod.fst = List.range' lo (hi - lo)) (hrows : ∀ e ∈ store, e.2 = arrived e.1) :
    store = heldRows arrived lo hi := by
  have hpairs : (store.map Prod.fst).map (fun k => (k, arrived k)) = store := by
    rw [List.map_map]
    exact (List.map_congr_left fun e he => by rw [Function.comp, ← hrows e he]).trans (List.map_id' store)
  rw [heldRows, ← hindex, hpairs]

/-- The entry of the next row keeps the `depth` newest (R111). -/
theorem storeRow_heldRows {depth r : Nat} (h : 0 < depth) :
    storeRow depth (heldRows arrived (r - depth) r) r (arrived r) = heldRows arrived (r + 1 - depth) (r + 1) := by
  refine eq_heldRows (storeRow_indices h heldRows_fst) fun e he => ?_
  rcases List.mem_append.mp he with he | he
  · exact snd_of_mem_heldRows (List.mem_filter.mp he).1
  · rw [List.mem_singleton.mp he]

/-- A release leaves the rows from its bound on (R111). -/
theorem releaseRows_heldRows {bound : Nat} (h : lo ≤ hi) :
    releaseRows bound (heldRows arrived lo hi) = heldRows arrived (max lo bound) hi := by
  refine eq_heldRows ?_ fun e he => snd_of_mem_heldRows (List.mem_filter.mp he).1
  rw [releaseRows_indices heldRows_fst, Nat.add_sub_cancel' h]

/-- A row held is found at its index. -/
theorem heldRow_of_mem (hnodup : (store.map Prod.fst).Nodup) {e : Nat × Row} (he : e ∈ store) : heldRow store e.1 = e.2 := by
  have hfound : (e.1, heldRow store e.1) ∈ store := heldRow_mem ⟨e.2, he⟩
  exact congrArg Prod.snd (List.inj_on_of_nodup_map hnodup hfound he rfl)

end Held

/-! ### The plan of a row that is emitted -/

/-- A test that keeps every plan of a row's band keeps the plan that the row is made by (R63). -/
theorem rowPlan_filter {c : StreamConfig} {queue : List Plan} {keep : Plan → Bool} {y : Nat}
    (h : ∀ p : Plan, p.band = y / c.hb → keep p = true) : rowPlan c (queue.filter keep) y = rowPlan c queue y := by
  have hsame : (fun p : Plan => decide (keep p = true ∧ (p.band == y / c.hb) = true)) = fun p => p.band == y / c.hb := by
    funext p
    by_cases hp : p.band = y / c.hb
    · simp [hp, h p hp]
    · simp [hp]
  rw [rowPlan, rowPlan, List.find?_filter, hsame]

/-- The plans left in the queue when the rows from `first` up to `n` have been emitted (R64). -/
def plansLeft (c : StreamConfig) (queue : List Plan) (first n : Nat) : List Plan :=
  queue.filter fun p => c.lastRow p.band < first ∨ n ≤ c.lastRow p.band

theorem plansLeft_self (c : StreamConfig) (queue : List Plan) (n : Nat) : plansLeft c queue n n = queue := by
  refine List.filter_eq_self.mpr fun p _ => decide_eq_true ?_
  omega

theorem plansLeft_succ {c : StreamConfig} {queue : List Plan} {first n : Nat} (h : first ≤ n) :
    queueAfterRow c (plansLeft c queue first n) n = plansLeft c queue first (n + 1) := by
  rw [queueAfterRow, plansLeft, List.filter_filter, plansLeft]
  refine List.filter_congr fun p _ => ?_
  rw [Bool.eq_iff_iff]
  simp only [Bool.and_eq_true, bne_iff_ne, decide_eq_true_eq]
  omega

theorem rowPlan_plansLeft {c : StreamConfig} {queue : List Plan} {first n : Nat} (hhb : 0 < c.hb) (hheight : n < c.height) :
    rowPlan c (plansLeft c queue first n) n = rowPlan c queue n :=
  rowPlan_filter fun _ hp => decide_eq_true (.inr (le_lastRow hhb hp hheight))

/-! ### The way of a close -/

/-- Row `k` of a frame that closes when `received` rows have arrived: the row that arrived, or a copy of the last that did, or
zeros when none did (R114). -/
def closeRow (c : StreamConfig) (store : List (Nat × Row)) (received k : Nat) : Row :=
  if k < received then heldRow store k
  else if received = 0 then List.replicate c.width zeroPixel
  else heldRow store (received - 1)

/-- The rows held when row `y` of a frame that closes is emitted (R111, R113, R114). -/
def closeStore (c : StreamConfig) (arrived : Nat → Row) (y : Nat) : List (Nat × Row) :=
  heldRows arrived (if y + c.lag < c.height then y - c.lead - 1 else y - c.lead - 2) (min c.height (y + c.lag + 1))

/-- Row `y` of a frame that closes, as it is emitted (R118 to R120). -/
def closeOut (c : StreamConfig) (queue : List Plan) (arrived : Nat → Row) (y : Nat) : List (Pixel × Nat) :=
  outputPixels c (rowPlan c queue y).1 (rowPlan c queue y).2 (closeStore c arrived y) y

/-- The rows of the frame `g` that a close emits up to row `n`. -/
def closeOuts (c : StreamConfig) (queue : List Plan) (arrived : Nat → Row) (g : Frame) (n : Nat) : List (List (Pixel × Nat)) :=
  (List.range' g.report.rowsEmitted (n - g.report.rowsEmitted)).map (closeOut c queue arrived)

/-- The state on the way of a close, from the state `u` after the last band plan, when the rows up to `n` have left. -/
def State.closedTo (u : State) (c : StreamConfig) (g : Frame) (arrived : Nat → Row) (store : List (Nat × Row)) (n : Nat) :
    State :=
  u.drained g store (plansLeft c u.planner.queue g.report.rowsEmitted n) (closeOuts c u.planner.queue arrived g n)

section Way

variable {u : State} {c : StreamConfig} {g : Frame} {arrived : Nat → Row}

theorem closedTo_start (h : u.pixel.frame = some g) :
    u.closedTo c g arrived u.pixel.lineStore g.report.rowsEmitted = u := by
  unfold State.closedTo closeOuts
  rw [plansLeft_self, Nat.sub_self]
  exact drained_nil h

theorem closedTo_emitRow {n : Nat} (hfirst : g.report.rowsEmitted ≤ n) (hhb : 0 < c.hb) (hheight : n < c.height) :
    (u.closedTo c g arrived (closeStore c arrived n) n).emitRow c n =
      u.closedTo c g arrived (closeStore c arrived n) (n + 1) := by
  unfold State.closedTo
  rw [drained_emitRow, plansLeft_succ hfirst, rowPlan_plansLeft hhb hheight]
  congr 1
  unfold closeOuts
  rw [Nat.succ_sub hfirst, List.range'_1_concat, List.map_append, Nat.add_sub_cancel' hfirst]
  rfl

theorem closedTo_rowsEmitted {store : List (Nat × Row)} {n : Nat} (h : g.report.rowsEmitted ≤ n) :
    (u.closedTo c g arrived store n).pixel.rowsEmitted = n := by
  change ((g.report.addRows (closeOuts c u.planner.queue arrived g n))).rowsEmitted = n
  rw [addRows_eq, closeOuts]
  simp
  omega

/-- A completion row is stored, and the row D behind it leaves (R114). -/
theorem closedTo_completionRow (hc : ConfigOk c) {r : Nat} (hfirst : g.report.rowsEmitted ≤ r - c.lag)
    (hheight : r < c.height) :
    State.completionRow c (arrived r) (u.closedTo c g arrived (heldRows arrived (r - c.depth) r) (r - c.lag)) r =
      u.closedTo c g arrived (heldRows arrived (r + 1 - c.depth) (r + 1)) (r + 1 - c.lag) := by
  have hdepth := hc.depth_eq
  have hstored : (u.closedTo c g arrived (heldRows arrived (r - c.depth) r) (r - c.lag)).storeRow c r (arrived r) =
      u.closedTo c g arrived (heldRows arrived (r + 1 - c.depth) (r + 1)) (r - c.lag) := by
    unfold State.closedTo
    rw [drained_storeRow, storeRow_heldRows (by omega)]
  have hreleased (n : Nat) :
      (u.closedTo c g arrived (heldRows arrived (r + 1 - c.depth) (r + 1)) n).releaseBelow (r - c.lag - c.lead - 1) =
        u.closedTo c g arrived (heldRows arrived (r + 1 - c.depth) (r + 1)) n := by
    unfold State.closedTo
    rw [drained_releaseBelow, releaseRows_heldRows (by omega)]
    congr 2
    omega
  unfold State.completionRow State.afterStore
  rw [hstored]
  dsimp only
  split
  · have hheld : heldRows arrived (r + 1 - c.depth) (r + 1) = closeStore c arrived (r - c.lag) := by
      unfold closeStore
      rw [if_pos (by omega)]
      congr 1 <;> omega
    have hemitted : (u.closedTo c g arrived (heldRows arrived (r + 1 - c.depth) (r + 1)) (r - c.lag)).emitRow c (r - c.lag) =
        u.closedTo c g arrived (heldRows arrived (r + 1 - c.depth) (r + 1)) (r + 1 - c.lag) := by
      rw [hheld, closedTo_emitRow hfirst hc.hb_pos (by omega), show r - c.lag + 1 = r + 1 - c.lag by omega]
    rw [hemitted, hreleased]
  · rw [hreleased, show r - c.lag = r + 1 - c.lag by omega]

/-- A row left over at the close leaves, and the rows below the next are released (R111, R113). -/
theorem closedTo_closingRow (hc : ConfigOk c) {y : Nat} (hfirst : g.report.rowsEmitted ≤ y) (hlast : c.height ≤ y + c.lag)
    (hheight : y < c.height) :
    State.closingRow c (u.closedTo c g arrived (heldRows arrived (y - c.lead - 2) c.height) y) y =
      u.closedTo c g arrived (heldRows arrived (y + 1 - c.lead - 2) c.height) (y + 1) := by
  have hheld : heldRows arrived (y - c.lead - 2) c.height = closeStore c arrived y := by
    unfold closeStore
    rw [if_neg (by omega)]
    congr 1
    omega
  unfold State.closingRow
  rw [hheld, closedTo_emitRow hfirst hc.hb_pos hheight, ← hheld]
  unfold State.closedTo
  rw [drained_releaseBelow, releaseRows_heldRows (by omega)]
  congr 2
  omega

/-- The completion rows put out all but the last D rows (R114). -/
theorem closedTo_completionRows (hc : ConfigOk c) {received : Nat} (hfirst : g.report.rowsEmitted = received - c.lag)
    (hheight : received ≤ c.height) {row : Row} (hrow : ∀ r, received ≤ r → arrived r = row) :
    (List.range' received (c.height - received)).foldl (State.completionRow c row)
        (u.closedTo c g arrived (heldRows arrived (received - c.depth) received) g.report.rowsEmitted) =
      u.closedTo c g arrived (heldRows arrived (c.height - c.depth) c.height) (c.height - c.lag) := by
  have hall := foldl_range' (op := State.completionRow c row)
    (P := fun r t => t = u.closedTo c g arrived (heldRows arrived (r - c.depth) r) (r - c.lag))
    received (c.height - received) rfl fun r t hlo hhi ht => by
      rw [ht, ← hrow r hlo]
      exact closedTo_completionRow hc (by omega) (by omega)
  rw [Nat.add_sub_cancel' hheight] at hall
  rw [hfirst]
  exact hall

/-- The rows left over put out the frame whole (R113). -/
theorem closedTo_emitRemaining (hc : ConfigOk c) (hfirst : g.report.rowsEmitted ≤ c.height - c.lag) :
    (u.closedTo c g arrived (heldRows arrived (c.height - c.depth) c.height) (c.height - c.lag)).emitRemaining c =
      u.closedTo c g arrived (heldRows arrived (c.height - c.lead - 2) c.height) c.height := by
  have hdepth := hc.depth_eq
  have hall := foldl_range' (op := State.closingRow c)
    (P := fun y t => t = u.closedTo c g arrived (heldRows arrived (y - c.lead - 2) c.height) y)
    (c.height - c.lag) (c.height - (c.height - c.lag)) rfl fun y t hlo hhi ht => by
      rw [ht]
      exact closedTo_closingRow hc (by omega) (by omega) (by omega)
  rw [Nat.add_sub_cancel' (Nat.sub_le _ _)] at hall
  unfold State.emitRemaining
  rw [closedTo_rowsEmitted hfirst, show c.height - c.depth = c.height - c.lag - c.lead - 2 by omega]
  exact hall

end Way

/-! ### The bands planned at a close -/

/-- A report with band plans added (R173). -/
def FrameReport.addPlans (r : FrameReport) (plans : List Plan) : FrameReport := plans.foldl FrameReport.addPlan r

/-- Band plans leave the counts of rows, the saturation and the marks of the report alone (R173). -/
theorem addPlans_eq (r : FrameReport) (plans : List Plan) :
    { r.addPlans plans with
      bandsPlanned := r.bandsPlanned, slot := r.slot, firstScale := r.firstScale, leastScale := r.leastScale
      greatestScale := r.greatestScale, kb := r.kb, kv := r.kv, axisStates := r.axisStates, clampedLow := r.clampedLow
      clampedHigh := r.clampedHigh, outOfRange := r.outOfRange, focusFresh := r.focusFresh } = r ∧
    (r.addPlans plans).bandsPlanned = r.bandsPlanned + plans.length := by
  induction plans using List.reverseRecOn with
  | nil => exact ⟨rfl, rfl⟩
  | append_singleton plans p ih =>
    obtain ⟨hleft, hcount⟩ := ih
    have hconcat : r.addPlans (plans ++ [p]) = (r.addPlans plans).addPlan p := by simp [FrameReport.addPlans]
    rw [hconcat]
    refine ⟨hleft, ?_⟩
    rw [List.length_append, ← Nat.add_assoc, ← hcount]
    rfl

/-- The planning of a band touches the SOURCE and FRAMING flags of the notice state alone (R50, R67). -/
theorem planBand_notices (s : State) (c : StreamConfig) (h : FrameHeader) (b : Nat) :
    { (s.planBand c h b).notices with source := s.notices.source, framing := s.notices.framing } = s.notices := by
  have hmade (u : State) (d : PlanId) :
      { (u.makePlan d c.sMax).2.notices with framing := u.notices.framing } = u.notices := by
    unfold State.makePlan
    split
    · split
      · rw [takeCapture_eq]
        split <;> rfl
      · rfl
    · rfl
  have happlied : s.bandApply.notices = s.notices := by
    unfold State.bandApply
    split <;> rfl
  have hleft := hmade (s.bandApply.evaluate (bandTime c h b)) ⟨h.frameNumber.toNat, b, bandTime c h b⟩
  rw [evaluate_eq] at hleft
  change { ((s.bandApply.evaluate (bandTime c h b)).makePlan _ c.sMax).2.notices with
    source := s.notices.source, framing := s.notices.framing } = _
  rw [← happlied]
  exact congrArg (fun n : Notices => { n with source := s.bandApply.notices.source }) hleft

/-- The bands planned one after another. -/
def State.planBands (s : State) (c : StreamConfig) (h : FrameHeader) (bands : List Nat) : State :=
  bands.foldl (fun u b => u.planBand c h b) s

section Planning

variable (s : State) (c : StreamConfig) (h : FrameHeader)

/-- Bands planned one after another add their plans, in band order, to the frame report and to the end of the queue (R58, R63). -/
theorem exists_planBands (bands : List Nat) :
    ∃ plans : List Plan, plans.map Plan.band = bands ∧
      (s.planBands c h bands).pixel = s.pixel.mapReport (·.addPlans plans) ∧
      (s.planBands c h bands).planner.queue = s.planner.queue ++ plans := by
  induction bands using List.reverseRecOn with
  | nil =>
    refine ⟨[], rfl, ?_, (List.append_nil _).symm⟩
    simp [State.planBands, PixelPath.mapReport, FrameReport.addPlans]
  | append_singleton bands b ih =>
    obtain ⟨plans, hbands, hpixel, hqueue⟩ := ih
    obtain ⟨p, hband, hpixel', hqueue'⟩ := exists_planBand (s.planBands c h bands) c h b
    have hconcat : s.planBands c h (bands ++ [b]) = (s.planBands c h bands).planBand c h b := by simp [State.planBands]
    refine ⟨plans ++ [p], by rw [List.map_append, hbands, List.map_singleton, hband], ?_, ?_⟩
    · rw [hconcat, hpixel', hpixel]
      simp [PixelPath.mapReport, FrameReport.addPlans, Function.comp_def]
    · rw [hconcat, hqueue', hqueue, List.append_assoc]

/-- What the planning of bands leaves alone (R58). -/
theorem planBands_leaves (bands : List Nat) :
    { s.planBands c h bands with
      tracks := s.tracks, slots := s.slots, settings := s.settings, planner := s.planner, pixel := s.pixel
      watches := s.watches, notices := s.notices } = s :=
  List.foldlRecOn (motive := fun t : State => { t with
      tracks := s.tracks, slots := s.slots, settings := s.settings, planner := s.planner, pixel := s.pixel
      watches := s.watches, notices := s.notices } = s) bands _ rfl fun t ht b _ => by
    have hplanned := planBand_leaves t c h b
    rw [← hplanned] at ht
    exact ht

theorem planBands_notices (bands : List Nat) :
    { (s.planBands c h bands).notices with source := s.notices.source, framing := s.notices.framing } = s.notices :=
  List.foldlRecOn (motive := fun t : State =>
      { t.notices with source := s.notices.source, framing := s.notices.framing } = s.notices) bands _ rfl
    fun t ht b _ => by
      have hplanned := planBand_notices t c h b
      rw [← hplanned] at ht
      exact ht

end Planning

/-! ### The close of a frame -/

/-- A frame that closes, marked TRUNCATED with an INPUT_SHORT fault when fewer than H rows arrived (R114, R167). -/
def State.opened (s : State) (c : StreamConfig) (f : Frame) : State :=
  if decide (f.report.rowsReceived < c.height) then
    { s.faulted .inputShort (some f.report.frameNumber) (some f.report.rowsReceived) with
      pixel := { s.pixel with frame := some { f with report := { f.report with truncated := true } } } }
  else s

/-- A frame that closes, with its bands not yet planned planned (R57, R114). -/
def State.plannedAtClose (s : State) (c : StreamConfig) (f : Frame) : State :=
  (s.opened c f).planBands c f.header (c.unplannedBands f.report.rowsReceived)

/-- Row `k` of the frame that closes (R114). -/
def State.closeRow (s : State) (c : StreamConfig) (f : Frame) (k : Nat) : Row :=
  Machine.closeRow c s.pixel.lineStore f.report.rowsReceived k

section Close

variable {s : State} {c : StreamConfig} {f : Frame}

/-- No band is left to plan once every row has arrived (R57). -/
theorem unplannedBands_whole (hc : ConfigOk c) : c.unplannedBands c.height = [] := by
  have hhb := hc.hb_pos
  obtain ⟨-, -, -, -, -, -, -, -, -, -, -, -, -, hcount, -⟩ := hc
  refine List.filter_eq_nil_iff.mpr fun b hb => ?_
  rw [List.mem_range, hcount, Nat.lt_div_iff_mul_lt hhb] at hb
  simp only [decide_eq_true_eq, not_le]
  omega

/-- The rows held as a close begins are the rows that arrived (R111). -/
theorem lineStore_eq_heldRows (h : FrameOk c f s.pixel.lineStore) :
    s.pixel.lineStore =
      heldRows (s.closeRow c f) (f.report.rowsReceived - c.depth) f.report.rowsReceived := by
  obtain ⟨-, -, -, -, -, -, -, -, -, hindex, -⟩ := h
  refine eq_heldRows hindex fun e he => ?_
  have hin : e.1 ∈ heldIndices c f.report.rowsReceived := hindex ▸ List.mem_map_of_mem he
  rw [heldIndices, List.mem_range'_1] at hin
  have hnodup : (s.pixel.lineStore.map Prod.fst).Nodup := hindex ▸ List.nodup_range'
  rw [State.closeRow, Machine.closeRow, if_pos (by omega), heldRow_of_mem hnodup he]

/-- A short close up to its completion rows (R114, R167). -/
theorem shortClose_eq (hf : s.pixel.frame = some f) (hshort : f.report.rowsReceived < c.height) :
    s.shortClose c f =
      (List.range' f.report.rowsReceived (c.height - f.report.rowsReceived)).foldl
        (State.completionRow c (if f.report.rowsReceived = 0 then List.replicate c.width zeroPixel
          else heldRow s.pixel.lineStore (f.report.rowsReceived - 1))) (s.plannedAtClose c f) := by
  have hopened : (s.reportFault .inputShort (some f.report.frameNumber) (some f.report.rowsReceived)).setPixel
      ((s.reportFault .inputShort (some f.report.frameNumber) (some f.report.rowsReceived)).pixel.mapReport
        fun x => { x with truncated := true }) = s.opened c f := by
    rw [reportFault_pixel, reportFault_eq, State.opened, if_pos (decide_eq_true hshort), PixelPath.mapReport, hf]
    rfl
  unfold State.shortClose
  dsimp only
  rw [hopened]
  rfl

/-- The frame in progress after the bands left have been planned: its report has their plans, and the mark of a short close. -/
theorem plannedAtClose_eq (hf : s.pixel.frame = some f) :
    ∃ plans : List Plan, plans.map Plan.band = c.unplannedBands f.report.rowsReceived ∧
      (s.plannedAtClose c f).pixel =
        { s.pixel with
          frame := some { f with
            report := ({ f.report with
              truncated := f.report.truncated || decide (f.report.rowsReceived < c.height) }).addPlans plans } } ∧
      (s.plannedAtClose c f).planner.queue = s.planner.queue ++ plans := by
  obtain ⟨plans, hbands, hpixel, hqueue⟩ :=
    exists_planBands (s.opened c f) c f.header (c.unplannedBands f.report.rowsReceived)
  have hopened : (s.opened c f).pixel =
      { s.pixel with
        frame := some { f with
          report := { f.report with
            truncated := f.report.truncated || decide (f.report.rowsReceived < c.height) } } } ∧
      (s.opened c f).planner = s.planner := by
    unfold State.opened
    split
    · rename_i hshort
      refine ⟨by simp [hshort], ?_⟩
      rw [← reportFault_eq]
      exact reportFault_planner s _ _ _
    · rename_i hwhole
      refine ⟨?_, rfl⟩
      simp [hwhole, ← hf]
  refine ⟨plans, hbands, ?_, ?_⟩
  · rw [State.plannedAtClose, hpixel, hopened.1]
    rfl
  · rw [State.plannedAtClose, hqueue, hopened.2]

/-- A frame of which every row arrived has nothing left to plan (R57). -/
theorem plannedAtClose_of_whole (h : s.pixel.Consistent) (hc : s.pixel.config = some c) (hf : s.pixel.frame = some f)
    (hlong : c.height ≤ f.report.rowsReceived) : s.plannedAtClose c f = s := by
  obtain ⟨-, -, -, hreceived, -⟩ := h.frameOk c hc f hf
  have hwhole : f.report.rowsReceived = c.height := by omega
  rw [State.plannedAtClose, State.opened, if_neg (by simpa using hlong), hwhole, unplannedBands_whole (h.accepted c hc)]
  rfl

/-- The close of a frame in progress emits every row from the plans then queued (R113, R114). -/
theorem emitRemaining_atClose (h : s.pixel.Consistent) (hc : s.pixel.config = some c) (hf : s.pixel.frame = some f)
    {g : Frame} (hg : (s.plannedAtClose c f).pixel.frame = some g) (hemitted : g.report.rowsEmitted = f.report.rowsEmitted) :
    (if f.report.rowsReceived < c.height then s.shortClose c f else s).emitRemaining c =
      (s.plannedAtClose c f).closedTo c g (s.closeRow c f)
        (heldRows (s.closeRow c f) (c.height - c.lead - 2) c.height) c.height := by
  have haccepted := h.accepted c hc
  have hok := h.frameOk c hc f hf
  have hstore := lineStore_eq_heldRows hok
  obtain ⟨-, -, -, hreceived, hrows, -⟩ := hok
  obtain ⟨plans, -, hpixel, -⟩ := plannedAtClose_eq (c := c) hf
  have hheld : (s.plannedAtClose c f).pixel.lineStore =
      heldRows (s.closeRow c f) (f.report.rowsReceived - c.depth) f.report.rowsReceived := by
    rw [hpixel, ← hstore]
  have hstart := closedTo_start (c := c) (arrived := s.closeRow c f) hg
  rw [hheld] at hstart
  split
  · rename_i hshort
    rw [shortClose_eq hf hshort, ← hstart, closedTo_completionRows haccepted (hemitted.trans hrows) hreceived fun r hr => ?_,
      closedTo_emitRemaining haccepted (by omega)]
    · rw [hstart]
    · rw [State.closeRow, Machine.closeRow, if_neg (by omega)]
  · rename_i hlong
    have hwhole : f.report.rowsReceived = c.height := by omega
    rw [plannedAtClose_of_whole h hc hf (by omega)] at hstart ⊢
    rw [hwhole] at hstart hrows
    rw [← closedTo_emitRemaining haccepted (by omega), show c.height - c.lag = g.report.rowsEmitted by omega, hstart]

/-- What ends a close: the trailer with the report as it stands, the hand-over of the report, and the stream WAITING, or STOPPED
with the STREAM flag set (R106, R113, R158, R174). -/
theorem endClose_eq {t : State} {g : Frame} (hg : t.pixel.frame = some g) :
    t.emitTrailer.handOverReport.endFrame =
      { t with
        pixel := t.pixel.closed
        outputs := { t.outputs with video := t.outputs.video ++ [.trailer g.report] }
        notices :=
          { t.notices with
            framesCount := countUp t.notices.framesCount
            retained := if t.control.subscriptions.getLsbD 7 then some g.report else t.notices.retained
            summary := t.notices.summary || t.control.subscriptions.getLsbD 7
            stream := t.notices.stream || decide (t.pixel.stream = .stopping) } } := by
  have htrailer : t.emitTrailer = { t with outputs := { t.outputs with video := t.outputs.video ++ [.trailer g.report] } } := by
    rw [State.emitTrailer, hg]
    rfl
  rw [htrailer, State.handOverReport]
  dsimp only
  rw [hg]
  dsimp only
  rw [handOver_eq]
  unfold State.endFrame PixelPath.closed
  dsimp only
  split
  · rename_i hstopping
    simp [State.setPixel, State.setNotices, PixelPath.idle, hstopping]
  · rename_i hrunning
    simp [State.setPixel, PixelPath.idle, hrunning]

/-- The rows that the close of a frame emits, each pixel with its number of saturated colours (R113, R114). -/
def State.closeOuts (s : State) (c : StreamConfig) (f : Frame) : List (List (Pixel × Nat)) :=
  (List.range' f.report.rowsEmitted (c.height - f.report.rowsEmitted)).map
    (closeOut c (s.plannedAtClose c f).planner.queue (s.closeRow c f))

/-- The close of a frame in progress: from the state with its last bands planned, every remaining row and the trailer leave, the
plans of the emitted rows leave the queue, and the report is handed over (R113, R114). -/
theorem closeFrame_eq_planned (h : s.pixel.Consistent) (hc : s.pixel.config = some c) (hf : s.pixel.frame = some f)
    {g : Frame} (hg : (s.plannedAtClose c f).pixel.frame = some g) (hemitted : g.report.rowsEmitted = f.report.rowsEmitted) :
    s.closeFrame =
      { s.plannedAtClose c f with
        pixel := s.pixel.closed
        planner :=
          { (s.plannedAtClose c f).planner with
            queue := plansLeft c (s.plannedAtClose c f).planner.queue f.report.rowsEmitted c.height }
        outputs :=
          { (s.plannedAtClose c f).outputs with
            video := (s.plannedAtClose c f).outputs.video ++ g.rowPackets (s.closeOuts c f)
              ++ [.trailer (g.report.addRows (s.closeOuts c f))] }
        notices :=
          { (s.plannedAtClose c f).notices with
            framesCount := countUp (s.plannedAtClose c f).notices.framesCount
            retained :=
              if (s.plannedAtClose c f).control.subscriptions.getLsbD 7 then some (g.report.addRows (s.closeOuts c f))
              else (s.plannedAtClose c f).notices.retained
            summary := (s.plannedAtClose c f).notices.summary || (s.plannedAtClose c f).control.subscriptions.getLsbD 7
            stream := (s.plannedAtClose c f).notices.stream || decide (s.pixel.stream = .stopping) } } := by
  obtain ⟨plans, -, hpixel, -⟩ := plannedAtClose_eq (c := c) hf
  have hidle : (s.plannedAtClose c f).pixel.idle = s.pixel.idle := by rw [hpixel]; rfl
  have hclosed (store : List (Nat × Row)) (queue : List Plan) (outs : List (List (Pixel × Nat))) :
      ((s.plannedAtClose c f).drained g store queue outs).pixel.closed = s.pixel.closed := closed_eq_of_idle_eq hidle
  have hstream (store : List (Nat × Row)) (queue : List Plan) (outs : List (List (Pixel × Nat))) :
      ((s.plannedAtClose c f).drained g store queue outs).pixel.stream = s.pixel.stream :=
    (congrArg PixelPath.stream hidle :)
  have houts : Machine.closeOuts c (s.plannedAtClose c f).planner.queue (s.closeRow c f) g c.height = s.closeOuts c f := by
    rw [Machine.closeOuts, hemitted]
    rfl
  rw [closeFrame_eq hc hf, emitRemaining_atClose h hc hf hg hemitted, State.closedTo, houts, hemitted,
    endClose_eq (g := g.emitted (s.closeOuts c f)) rfl, hclosed, hstream]
  rfl

end Close

end Sys2Proof.Machine

/-! PROOFS. The end of a frame (R113, R114, R167): the statement on the frame in progress from what its close comes to, and the
plan queue and the output port that every step keeps (R63, R64, R121, R123). -/

namespace Sys2Proof.Machine

section Close

variable {s : State} {c : StreamConfig} {f : Frame}

/-! ### What the last bands of a frame leave -/

theorem opened_leaves (s : State) (c : StreamConfig) (f : Frame) :
    (∃ pixel notices faults, s.opened c f = { s with pixel, notices, faults }) ∧
    { (s.opened c f).notices with fault := s.notices.fault } = s.notices ∧
    (s.opened c f).faults = if decide (f.report.rowsReceived < c.height) then
      (s.faulted .inputShort (some f.report.frameNumber) (some f.report.rowsReceived)).faults else s.faults := by
  unfold State.opened State.faulted
  split
  · split <;> exact ⟨⟨_, _, _, rfl⟩, rfl, rfl⟩
  · exact ⟨⟨_, _, _, rfl⟩, rfl, rfl⟩

/-- The last band plans and an INPUT_SHORT fault leave the links, the intake, the ramps, the port and the resets alone. -/
theorem plannedAtClose_leaves (s : State) (c : StreamConfig) (f : Frame) :
    { s.plannedAtClose c f with
      tracks := s.tracks, slots := s.slots, settings := s.settings, planner := s.planner, pixel := s.pixel
      watches := s.watches, notices := s.notices, faults := s.faults } = s := by
  obtain ⟨pixel, notices, faults, hopened⟩ := (opened_leaves s c f).1
  unfold State.plannedAtClose
  rw [hopened]
  exact congrArg (fun t : State => { t with pixel := s.pixel, notices := s.notices, faults := s.faults })
    (planBands_leaves { s with pixel, notices, faults } c f.header (c.unplannedBands f.report.rowsReceived))

theorem plannedAtClose_notices (s : State) (c : StreamConfig) (f : Frame) :
    { (s.plannedAtClose c f).notices with
      source := s.notices.source, framing := s.notices.framing, fault := s.notices.fault } = s.notices := by
  have hopened := (opened_leaves s c f).2.1
  rw [← planBands_notices (s.opened c f) c f.header (c.unplannedBands f.report.rowsReceived)] at hopened
  rw [← hopened]
  rfl

theorem plannedAtClose_faults (s : State) (c : StreamConfig) (f : Frame) :
    (s.plannedAtClose c f).faults = (s.opened c f).faults :=
  (congrArg State.faults (planBands_leaves (s.opened c f) c f.header (c.unplannedBands f.report.rowsReceived)) :)

theorem plannedAtClose_outputs (s : State) (c : StreamConfig) (f : Frame) :
    (s.plannedAtClose c f).outputs = s.outputs :=
  (congrArg State.outputs (plannedAtClose_leaves s c f) :)

theorem plannedAtClose_control (s : State) (c : StreamConfig) (f : Frame) :
    (s.plannedAtClose c f).control = s.control :=
  (congrArg State.control (plannedAtClose_leaves s c f) :)

/-- Of `n` numbers those from `k` on are `n - k`. -/
theorem length_filter_le_range (k n : Nat) : ((List.range n).filter fun b => decide (k ≤ b)).length = n - k := by
  induction n with
  | zero => simp
  | succ n ih =>
    rw [List.range_succ, List.filter_append, List.length_append, ih]
    by_cases h : k ≤ n <;> simp [h] <;> omega

/-- The bands left to plan are those after the bands that the rows that arrived have started (R56, R57). -/
theorem unplannedBands_length (hc : ConfigOk c) (received : Nat) :
    (c.unplannedBands received).length = c.bandCount - (received + c.hb - 1) / c.hb := by
  have hhb := hc.hb_pos
  have hsame : (fun b => decide (received ≤ b * c.hb)) = fun b => decide ((received + c.hb - 1) / c.hb ≤ b) := by
    funext b
    rw [decide_eq_decide, ← Nat.lt_succ_iff (m := (received + c.hb - 1) / c.hb), Nat.div_lt_iff_lt_mul hhb, Nat.succ_mul]
    omega
  rw [StreamConfig.unplannedBands, hsame, length_filter_le_range]

/-- The frame in progress once its last bands are planned: all its bands are, and the rest of its report stands but for the mark of
a short close. -/
structure Frame.Whole (c : StreamConfig) (f g : Frame) : Prop where
  header     : g.header = f.header
  sent       : g.headerSent = f.headerSent
  number     : g.report.frameNumber = f.report.frameNumber
  received   : g.report.rowsReceived = f.report.rowsReceived
  emitted    : g.report.rowsEmitted = f.report.rowsEmitted
  planned    : g.report.bandsPlanned = c.bandCount
  saturation : g.report.saturation = f.report.saturation
  truncated  : g.report.truncated = decide (f.report.rowsReceived < c.height)
  long       : g.report.long = f.report.long
  aborted    : g.report.aborted = false

theorem exists_whole (h : s.pixel.Consistent) (hc : s.pixel.config = some c) (hf : s.pixel.frame = some f) :
    ∃ g, (s.plannedAtClose c f).pixel.frame = some g ∧ f.Whole c g := by
  have haccepted := h.accepted c hc
  obtain ⟨-, -, -, hreceived, -, hplanned, -, htruncated, haborted, -⟩ := h.frameOk c hc f hf
  obtain ⟨plans, hbands, hpixel, -⟩ := plannedAtClose_eq (c := c) hf
  obtain ⟨hleft, hcount⟩ := addPlans_eq { f.report with
    truncated := f.report.truncated || decide (f.report.rowsReceived < c.height) } plans
  refine ⟨_, congrArg PixelPath.frame hpixel, rfl, rfl, (congrArg FrameReport.frameNumber hleft :),
    (congrArg FrameReport.rowsReceived hleft :), (congrArg FrameReport.rowsEmitted hleft :), ?_,
    (congrArg FrameReport.saturation hleft :), ?_, (congrArg FrameReport.long hleft :),
    (congrArg FrameReport.aborted hleft :).trans haborted⟩
  · have hlength : plans.length = c.bandCount - f.report.bandsPlanned := by
      rw [hplanned, ← unplannedBands_length haccepted, ← hbands, List.length_map]
    have hle : f.report.bandsPlanned ≤ c.bandCount := by
      obtain ⟨-, -, -, -, -, -, -, -, -, -, -, -, -, hbandCount, -⟩ := haccepted
      rw [hplanned, hbandCount]
      exact Nat.div_le_div_right (by omega)
    exact hcount.trans (by rw [hlength]; exact Nat.add_sub_cancel' hle)
  · have hmark := congrArg FrameReport.truncated hleft
    exact hmark.trans (by simp [htruncated])

/-- Every plan of a frame that closes leaves the queue with the last row of its band (R64). -/
theorem plansLeft_atClose (hpixel : s.PixelInv) (hqueue : s.QueueInv) (hc : s.pixel.config = some c)
    (hf : s.pixel.frame = some f) :
    plansLeft c (s.plannedAtClose c f).planner.queue f.report.rowsEmitted c.height = [] := by
  have hconsistent := (pixelInv_iff.mp hpixel).pixel
  have haccepted := hconsistent.accepted c hc
  have hhb := haccepted.hb_pos
  have hlag := haccepted.two_le_lag
  have hheight : 64 ≤ c.height := by
    obtain ⟨-, -, hheight, -⟩ := haccepted
    exact hheight
  obtain ⟨-, -, -, hreceived, hemitted, -⟩ := hconsistent.frameOk c hc f hf
  obtain ⟨plans, hbands, -, hplans⟩ := plannedAtClose_eq (c := c) hf
  refine List.filter_eq_nil_iff.mpr fun p hp => ?_
  have hlive : f.report.rowsEmitted < (p.band + 1) * c.hb := by
    rw [hplans] at hp
    rcases List.mem_append.mp hp with hp | hp
    · have hband := List.mem_map_of_mem (f := Plan.band) hp
      rw [hqueue.2 c hc f hf] at hband
      exact of_decide_eq_true (List.mem_filter.mp hband).2
    · have hband := List.mem_map_of_mem (f := Plan.band) hp
      rw [hbands] at hband
      have hlater := of_decide_eq_true (List.mem_filter.mp hband).2
      rw [Nat.succ_mul]
      omega
  intro hleft
  have hside := of_decide_eq_true hleft
  rw [StreamConfig.lastRow] at hside
  omega

/-- The end of a frame in progress closes it (R113). -/
theorem endArrives_eq_closeFrame (h : s.pixel.Consistent) (hf : s.pixel.frame = some f) : s.endArrives = s.closeFrame := by
  have hstream : s.pixel.stream = .inFrame ∨ s.pixel.stream = .stopping := h.frame_iff.mp (by rw [hf]; rfl)
  unfold State.endArrives
  rcases hstream with hstream | hstream <;> rw [hstream]

theorem closed_eq (x : PixelPath) :
    x.closed = { x with
      stream := if x.stream = .stopping then .stopped else .waiting
      lineStore := [], frame := none
      skip := x.skip && decide (x.stream ≠ .stopping)
      orphan := x.orphan && decide (x.stream ≠ .stopping) } := by
  unfold PixelPath.closed
  split
  · rename_i h
    simp [PixelPath.idle, h]
  · rename_i h
    simp [PixelPath.idle, h]

theorem closeOuts_length (s : State) (c : StreamConfig) (f : Frame) :
    (s.closeOuts c f).length = c.height - f.report.rowsEmitted := by
  rw [State.closeOuts, List.length_map, List.length_range']

/-- Fewer rows than H have been emitted while a frame is in progress (R109). -/
theorem FrameOk.emitted_lt {store : List (Nat × Row)} (h : FrameOk c f store) (hc : ConfigOk c) :
    f.report.rowsEmitted < c.height := by
  have hlag := hc.two_le_lag
  obtain ⟨-, -, hheight, -⟩ := hc
  obtain ⟨-, -, -, hreceived, hemitted, -⟩ := h
  omega

/-- The rows that a frame has left put out its header first, if that has not left (R121). -/
theorem rowPackets_of_rows {g : Frame} {outs : List (List (Pixel × Nat))} (h : 0 < outs.length) :
    g.rowPackets outs =
      (if g.headerSent then [] else [.header g.header]) ++ (outs.map fun out => out.map Prod.fst).map .row := by
  have hsome : outs.isEmpty = false := by
    rw [← Bool.not_eq_true, List.isEmpty_iff_length_eq_zero]
    omega
  rw [Frame.rowPackets, hsome, Bool.or_false, List.map_map]
  rfl

end Close

/-- Settles O47: the close comes to the last band plans, the remaining rows from the rows then held, and the trailer. -/
theorem frameEndClosesFrame : Obligations.FrameEndClosesFrame := by
  refine ⟨fun s c f hpixel hqueue hrun hc hf => ?_, fun s hrun => ⟨fun hstream => ?_, fun hstream => ?_⟩⟩
  · have hconsistent := (pixelInv_iff.mp hpixel).pixel
    have haccepted := hconsistent.accepted c hc
    have hlt := (hconsistent.frameOk c hc f hf).emitted_lt haccepted
    obtain ⟨g, hg, hwhole⟩ := exists_whole hconsistent hc hf
    have hclosed := closeFrame_eq_planned hconsistent hc hf hg hwhole.emitted
    have hcount := closeOuts_length s c f
    have hreport := addRows_eq g.report (s.closeOuts c f)
    have hheight : g.report.rowsEmitted + (s.closeOuts c f).length = c.height := by rw [hwhole.emitted, hcount]; omega
    rw [hheight] at hreport
    have hcontrol := plannedAtClose_control s c f
    have hnotices := plannedAtClose_notices s c f
    have hleaves := plannedAtClose_leaves s c f
    have hframes : (s.plannedAtClose c f).notices.framesCount = s.notices.framesCount :=
      (congrArg Notices.framesCount hnotices :)
    have hstreamFlag : (s.plannedAtClose c f).notices.stream = s.notices.stream := (congrArg Notices.stream hnotices :)
    rw [plansLeft_atClose hpixel hqueue hc hf, hcontrol, hframes, hstreamFlag, closed_eq] at hclosed
    refine ⟨s.closeFrame, (s.closeOuts c f).map (fun out => out.map Prod.fst), g.report.addRows (s.closeOuts c f),
      ?_, ?_, rfl, ?_, ⟨g, hg, hreport.symm⟩, ?_, ?_, ?_, ?_, ?_, ?_, ?_, ?_, ?_, ?_, ?_, ?_, ?_, ?_, ?_, ?_, ?_, ?_, ?_, ?_, ?_,
      ?_, ?_, ?_⟩
    · rw [← endArrives_eq_closeFrame hconsistent hf]
      exact congrArg Host.Outcome.next (if_pos hrun)
    · rw [hclosed]
      dsimp only
      rw [plannedAtClose_outputs, rowPackets_of_rows (by omega), hwhole.sent, hwhole.header]
      simp only [List.append_assoc]
    · intro hle
      rw [addRows_saturation (hwhole.saturation ▸ hle), hwhole.saturation]
      rfl
    · rw [hclosed]
      rfl
    · rw [hclosed]
      rfl
    · rw [List.length_map, hcount]
    · intro row hrow
      obtain ⟨out, hout, rfl⟩ := List.mem_map.mp hrow
      obtain ⟨y, -, rfl⟩ := List.mem_map.mp hout
      simp [closeOut, outputPixels]
    · rw [hreport]; exact hwhole.number
    · rw [hreport]; exact hwhole.received
    · rw [hreport]
    · rw [hreport]; exact hwhole.planned
    · rw [hreport]; exact hwhole.truncated
    · rw [hreport]; exact hwhole.long
    · rw [hreport]; exact hwhole.aborted
    · rw [hclosed]
      exact (plannedAtClose_faults s c f).trans (opened_leaves s c f).2.2
    · rw [hclosed]
    · rw [hclosed]
    · rw [hclosed]
      exact (congrArg Outputs.link (plannedAtClose_outputs s c f) :)
    · rw [hclosed]
    · rw [hclosed]
    · intro hsubscribed
      rw [hclosed]
      simp [hsubscribed]
    · intro hsubscribed
      rw [hclosed]
      simp only [hsubscribed, Bool.false_eq_true, if_false, Bool.or_false]
      exact ⟨(congrArg Notices.retained hnotices :), (congrArg Notices.summary hnotices :)⟩
    · rw [hclosed]
      exact (congrArg Notices.restarted hnotices :)
    · rw [hclosed]
      exact (congrArg Notices.ramp hnotices :)
    · rw [hclosed]
      exact (congrArg Notices.restartTag hnotices :)
    · rw [hclosed]
      exact congrArg (fun t : State => { t with outputs := s.outputs }) hleaves
    · intro hshort
      have hend : s.plannedAtClose c f = s := plannedAtClose_of_whole hconsistent hc hf (by simpa using hshort)
      rw [hend] at hclosed
      rw [hclosed]
      exact ⟨rfl, rfl, rfl, rfl, rfl⟩
  · exact congrArg Host.Outcome.next ((if_pos hrun).trans (by unfold State.endArrives; rw [hstream]; rfl))
  · exact congrArg Host.Outcome.next ((if_pos hrun).trans (by unfold State.endArrives; rw [hstream]))

/-! ### The plan queue (R63, R64) -/

section Queue

variable {s t : State} {c : StreamConfig} {f : Frame}

/-- With no frame in progress the plan queue is consistent when it is empty. -/
theorem queueInv_of_no_frame (hframe : t.pixel.frame = none) (hqueue : t.planner.queue = []) : t.QueueInv :=
  ⟨fun _ => hqueue, fun _ _ f hf => by rw [hframe] at hf; cases hf⟩

/-- The plan queue stays consistent where the frame, the configuration and the queue stand. -/
theorem queueInv_of_eq (hs : s.QueueInv) (hframe : t.pixel.frame = s.pixel.frame) (hconfig : t.pixel.config = s.pixel.config)
    (hqueue : t.planner.queue = s.planner.queue) : t.QueueInv := by
  unfold State.QueueInv
  rw [hframe, hconfig, hqueue]
  exact hs

/-- What a command that is no packet leaves of the frame path keeps the plan queue (R63, R69). -/
theorem FramePath.Commanded.queueInv (hpixel : s.pixel.Consistent) (hs : s.QueueInv) (h : s.framePath.Commanded t.framePath) :
    t.QueueInv := by
  have hqueue {x : List Plan} : t.framePath.queue = x → t.planner.queue = x := id
  have hpath {x : PixelPath} : t.framePath.pixel = x → t.pixel = x := id
  generalize ht : t.framePath = y at h hqueue hpath
  cases h with
  | unchanged => exact queueInv_of_eq hs (by rw [hpath rfl]; rfl) (by rw [hpath rfl]; rfl) (hqueue rfl)
  | configured hstopped _ =>
    have hnone := hpixel.frame_eq_none (.inl hstopped)
    exact queueInv_of_no_frame (by rw [hpath rfl]; exact hnone) ((hqueue rfl).trans (hs.1 hnone))
  | started _ hstopped _ =>
    have hnone := hpixel.frame_eq_none (.inl hstopped)
    exact queueInv_of_no_frame (by rw [hpath rfl]; exact hnone) ((hqueue rfl).trans (hs.1 hnone))
  | stopped =>
    have hkept : s.pixel.stop.frame = s.pixel.frame ∧ s.pixel.stop.config = s.pixel.config := by
      unfold PixelPath.stop
      split <;> exact ⟨rfl, rfl⟩
    exact queueInv_of_eq hs (by rw [hpath rfl]; exact hkept.1) (by rw [hpath rfl]; exact hkept.2) (hqueue rfl)
  | aborted _ => exact queueInv_of_no_frame (by rw [hpath rfl]) (hqueue rfl)
  | returned _ _ _ => exact queueInv_of_no_frame (by rw [hpath rfl]; rfl) (hqueue rfl)

/-- The close of a frame in progress leaves no frame and no plan (R63, R113). -/
theorem closeFrame_queueInv (hpixel : s.PixelInv) (hs : s.QueueInv) : s.closeFrame.QueueInv := by
  have hconsistent := (pixelInv_iff.mp hpixel).pixel
  cases hf : s.pixel.frame with
  | none =>
    have hsame : s.closeFrame = s := by
      unfold State.closeFrame
      rw [hf]
      split
      · rename_i h
        cases h
      · rfl
    rwa [hsame]
  | some f =>
    have hconfig := hconsistent.configured fun hstopped =>
      absurd (hf.symm.trans (hconsistent.frame_eq_none (.inl hstopped))) nofun
    obtain ⟨c, hc⟩ := Option.isSome_iff_exists.mp hconfig
    obtain ⟨g, hg, hwhole⟩ := exists_whole hconsistent hc hf
    rw [closeFrame_eq_planned hconsistent hc hf hg hwhole.emitted, plansLeft_atClose hpixel hs hc hf]
    exact queueInv_of_no_frame (by rw [closed_eq]) rfl

theorem closeIfOpen_queueInv (hpixel : s.PixelInv) (hs : s.QueueInv) : s.closeIfOpen.QueueInv := by
  unfold State.closeIfOpen
  split
  · exact closeFrame_queueInv hpixel hs
  · exact closeFrame_queueInv hpixel hs
  · exact hs

@[simp] theorem announce_planner (s : State) : s.announce.planner = s.planner := by
  unfold State.announce
  split <;> rfl

/-- A header starts a frame with no band planned (R108). -/
theorem headerArrives_queueInv (hpixel : s.PixelInv) (hs : s.QueueInv) (header : FrameHeader) :
    (s.headerArrives header).QueueInv := by
  have hclosed := closeIfOpen_queueInv hpixel hs
  unfold State.headerArrives
  dsimp only
  split
  · rename_i hwaiting
    have hnone := (closeIfOpen_consistent (pixelInv_iff.mp hpixel).pixel).frame_eq_none (.inr hwaiting)
    have hempty := hclosed.1 hnone
    unfold State.judgeHeader
    dsimp only
    split
    · unfold State.startFrame State.QueueInv
      rw [announce_pixel, announce_planner]
      refine ⟨nofun, fun c _ f hf => ?_⟩
      obtain rfl := Option.some.inj hf
      exact (congrArg (List.map Plan.band) hempty).trans rfl
    · exact queueInv_of_no_frame (by rw [reportFault_pixel]; exact hnone) (by rw [reportFault_planner]; exact hempty)
  · exact hclosed

/-- The plan that an accepted row adds to the queue, where it starts a band (R56, R63). -/
theorem rowStored_queue (s : State) (c : StreamConfig) (f : Frame) (row : Row) :
    ∃ plans : List Plan, plans.map Plan.band =
        (if f.report.rowsReceived % c.hb = 0 then [f.report.rowsReceived / c.hb] else []) ∧
      (s.rowStored c f row).planner.queue = s.planner.queue ++ plans := by
  unfold State.rowStored
  dsimp only
  split
  · obtain ⟨p, hband, -, hqueue⟩ := exists_planBand ((s.setPixel (s.pixel.mapReport fun x =>
      { x with rowsReceived := f.report.rowsReceived + 1 })).storeRow c f.report.rowsReceived (fitRow c.width row))
      c f.header (f.report.rowsReceived / c.hb)
    exact ⟨[p], by rw [List.map_singleton, hband], hqueue⟩
  · exact ⟨[], rfl, (List.append_nil _).symm⟩

/-- The bands planned, when one more row has arrived (R54, R56). -/
theorem range_bands (hc : ConfigOk c) (r : Nat) :
    List.range ((r + 1 + c.hb - 1) / c.hb) =
      List.range ((r + c.hb - 1) / c.hb) ++ (if r % c.hb = 0 then [r / c.hb] else []) := by
  rw [bands_succ hc.hb_pos]
  split
  · rename_i hstart
    have hceil : (r + c.hb - 1) / c.hb = r / c.hb := by
      obtain ⟨k, rfl⟩ := Nat.dvd_of_mod_eq_zero hstart
      have hhb := hc.hb_pos
      rw [Nat.mul_div_cancel_left _ hhb, show c.hb * k + c.hb - 1 = (c.hb - 1) + c.hb * k by omega,
        Nat.add_mul_div_left _ _ hhb, Nat.div_eq_of_lt (by omega), Nat.zero_add]
    rw [List.range_succ, hceil]
  · rw [Nat.add_zero, List.append_nil]

/-- A band is wholly emitted with its last row (R54, R64). -/
theorem lastRow_ne_iff {b y : Nat} (hy : y + 1 < c.height) (hlive : y < (b + 1) * c.hb) :
    c.lastRow b ≠ y ↔ y + 1 < (b + 1) * c.hb := by
  rw [StreamConfig.lastRow]
  omega

/-- Step 3 of a row's arrival takes the plans of the emitted row's last band off the queue (R64, R109). -/
theorem afterStore_queue (s : State) (c : StreamConfig) (r : Nat) :
    (s.afterStore c r).planner.queue =
      if c.lag ≤ r then queueAfterRow c s.planner.queue (r - c.lag) else s.planner.queue := by
  have hheader : s.emitHeader.planner = s.planner := by
    unfold State.emitHeader
    split
    · split <;> rfl
    · rfl
  unfold State.afterStore
  split
  · change queueAfterRow c s.emitHeader.planner.queue (r - c.lag) = _
    rw [hheader]
  · rfl

/-- An accepted row keeps the queue at the bands planned and not wholly emitted (R63, R64). -/
theorem acceptRow_queue (hc : ConfigOk c) {store : List (Nat × Row)} (hok : FrameOk c f store)
    (hqueue : s.planner.queue.map Plan.band =
      (List.range f.report.bandsPlanned).filter fun b => decide (f.report.rowsEmitted < (b + 1) * c.hb))
    (hreceived : f.report.rowsReceived < c.height) (row : Row) :
    (s.acceptRow c f row).planner.queue.map Plan.band =
      (List.range ((f.report.rowsReceived + 1 + c.hb - 1) / c.hb)).filter fun b =>
        decide (f.report.rowsReceived + 1 - c.lag < (b + 1) * c.hb) := by
  have hlag := hc.two_le_lag
  have hhb := hc.hb_pos
  obtain ⟨-, -, -, -, hemitted, hplanned, -⟩ := hok
  obtain ⟨plans, hbands, hstored⟩ := rowStored_queue s c f row
  have hnew : (if f.report.rowsReceived % c.hb = 0 then [f.report.rowsReceived / c.hb] else []).filter
      (fun b => decide (f.report.rowsEmitted < (b + 1) * c.hb)) =
        if f.report.rowsReceived % c.hb = 0 then [f.report.rowsReceived / c.hb] else [] := by
    refine List.filter_eq_self.mpr fun b hb => decide_eq_true ?_
    split at hb
    · obtain rfl := List.mem_singleton.mp hb
      have hlater := Nat.lt_div_mul_add (a := f.report.rowsReceived) hhb
      rw [Nat.succ_mul]
      omega
    · cases hb
  have hplans : (s.rowStored c f row).planner.queue.map Plan.band =
      (List.range ((f.report.rowsReceived + 1 + c.hb - 1) / c.hb)).filter
        fun b => decide (f.report.rowsEmitted < (b + 1) * c.hb) := by
    rw [hstored, List.map_append, hqueue, hbands, range_bands hc, List.filter_append, hnew, hplanned]
  rw [acceptRow_eq, afterStore_queue]
  split
  · rename_i hdue
    have hcommute : (queueAfterRow c (s.rowStored c f row).planner.queue (f.report.rowsReceived - c.lag)).map Plan.band =
        ((s.rowStored c f row).planner.queue.map Plan.band).filter
          fun b => c.lastRow b != f.report.rowsReceived - c.lag := by
      rw [queueAfterRow, List.filter_map]
      rfl
    rw [hcommute, hplans, List.filter_filter]
    refine List.filter_congr fun b _ => ?_
    rw [Bool.eq_iff_iff]
    simp only [Bool.and_eq_true, bne_iff_ne, decide_eq_true_eq]
    rw [hemitted, show f.report.rowsReceived + 1 - c.lag = f.report.rowsReceived - c.lag + 1 by omega]
    constructor
    · rintro ⟨hne, hlive⟩
      exact (lastRow_ne_iff (by omega) hlive).mp hne
    · intro hlater
      have hlive : f.report.rowsReceived - c.lag < (b + 1) * c.hb := Nat.lt_of_succ_lt hlater
      exact ⟨(lastRow_ne_iff (by omega) hlive).mpr hlater, hlive⟩
  · rw [hplans, hemitted, show f.report.rowsReceived + 1 - c.lag = f.report.rowsReceived - c.lag by omega]

theorem acceptRow_queueInv (hpixel : s.PixelInv) (hs : s.QueueInv) (hc : s.pixel.config = some c)
    (hf : s.pixel.frame = some f) (hreceived : f.report.rowsReceived < c.height) (row : Row) :
    (s.acceptRow c f row).QueueInv := by
  have hconsistent := (pixelInv_iff.mp hpixel).pixel
  have hok := hconsistent.frameOk c hc f hf
  have hqueue := acceptRow_queue (hconsistent.accepted c hc) hok (hs.2 c hc f hf) hreceived row
  have hidle : (s.acceptRow c f row).pixel.idle = s.pixel.idle := by rw [acceptRow_eq, afterStore_idle, rowStored_idle]
  have hconfig : (s.acceptRow c f row).pixel.config = s.pixel.config := (congrArg PixelPath.config hidle :)
  obtain ⟨g, hg, hadvanced⟩ := acceptRow_advanced (c := c) row hf
  obtain ⟨-, -, -, -, hemitted, hplanned, -⟩ := hok.of_acceptRow (hconsistent.accepted c hc) hreceived row hadvanced
  have hreceived' : g.report.rowsReceived = f.report.rowsReceived + 1 := hadvanced.received
  rw [hreceived'] at hemitted hplanned
  refine ⟨fun hnone => absurd (hg.symm.trans hnone) nofun, fun c' hc' k hk => ?_⟩
  obtain rfl : c = c' := Option.some.inj (hc.symm.trans (hconfig ▸ hc'))
  obtain rfl : g = k := Option.some.inj (hg.symm.trans hk)
  rw [hqueue, hemitted, hplanned]

theorem rowArrives_queueInv (hpixel : s.PixelInv) (hs : s.QueueInv) (row : Row) : (s.rowArrives row).QueueInv := by
  unfold State.rowArrives
  split
  · exact hs
  · unfold State.strayRow
    split
    · exact hs
    · exact queueInv_of_eq hs (by rw [reportFault_pixel]; rfl) (by rw [reportFault_pixel]; rfl)
        (by rw [reportFault_planner]; rfl)
  · split
    · rename_i c f hc hf
      split
      · rename_i hreceived
        exact acceptRow_queueInv hpixel hs hc hf hreceived row
      · unfold State.extraRow
        split
        · exact hs
        · have hkept : (s.setPixel (s.pixel.mapReport fun x => { x with long := true })).QueueInv := by
            refine ⟨fun hnone => ?_, fun c' hc' k hk => ?_⟩
            · rw [State.setPixel_pixel, PixelPath.mapReport, hf] at hnone
              cases hnone
            · rw [State.setPixel_pixel, PixelPath.mapReport, hf] at hk
              obtain rfl := Option.some.inj hk
              exact hs.2 c' hc' f hf
          exact queueInv_of_eq hkept (by rw [reportFault_pixel]) (by rw [reportFault_pixel]) (by rw [reportFault_planner])
    · exact hs

theorem State.Packet.queueInv (hpixel : s.PixelInv) (hs : s.QueueInv) (h : s.Packet t) : t.QueueInv := by
  cases h with
  | header header => exact headerArrives_queueInv hpixel hs header
  | row row => exact rowArrives_queueInv hpixel hs row
  | frameEnd =>
    unfold State.endArrives
    split
    · exact hs
    · exact queueInv_of_eq hs rfl rfl rfl
    · exact closeFrame_queueInv hpixel hs

end Queue

/-- Settles O49: a row adds the plan of the band that it starts and takes off that of the band that it ends, and a close takes off
every plan. -/
theorem queueInvariantKept : Obligations.QueueInvariantKept := by
  intro s t hpixel hs hstep
  rcases step_framePath hstep with hcommand | ⟨rest, -, hpacket⟩
  · exact hcommand.queueInv (pixelInv_iff.mp hpixel).pixel hs
  · exact hpacket.queueInv (s := s.setPending rest) hpixel hs

end Sys2Proof.Machine

/-! PROOFS. The output port stays well formed (R121, R123): the packets that the emission of rows, the close and the abort of a
frame put out, and what every other command leaves of the port. -/

namespace Sys2Proof.Machine

/-! ### Packets in order -/

/-- The output port stands where the frame says: open with as many rows as it has emitted, or closed. -/
def scanOf (frame : Option Frame) : VideoScan :=
  match frame with
  | some f => if f.headerSent then .opened f.header f.report.rowsEmitted else .closed
  | none => .closed

theorem videoInv_iff {s : State} : s.VideoInv ↔ scanVideo s.outputs.video = some (scanOf s.pixel.frame) := Iff.rfl

/-- The port goes on from where it stands. -/
theorem scanVideo_append {video packets : List VideoPacket} {v : VideoScan} (h : scanVideo video = some v) :
    scanVideo (video ++ packets) = packets.foldlM VideoScan.next v := by
  rw [scanVideo, List.foldlM_append, ← scanVideo, h]
  rfl

/-- Rows go out one after another while a frame is open (R121). -/
theorem foldlM_rows (h : FrameHeader) (rows : List Row) (n : Nat) :
    (rows.map VideoPacket.row).foldlM VideoScan.next (.opened h n) = some (.opened h (n + rows.length)) := by
  induction rows generalizing n with
  | nil => rfl
  | cons row rows ih =>
    rw [List.map_cons, List.foldlM_cons, List.length_cons, Nat.add_comm rows.length, ← Nat.add_assoc]
    exact ih (n + 1)

/-- The header of a frame has left exactly when one of its rows has (R121). -/
def Frame.HeaderFirst (f : Frame) : Prop := f.headerSent = true ↔ 0 < f.report.rowsEmitted

/-- The rows that a frame puts out, at least one, leave the port open with their number more (R121). -/
theorem scan_rowPackets {f : Frame} (hf : f.HeaderFirst) {outs : List (List (Pixel × Nat))} (h : 0 < outs.length) :
    (f.rowPackets outs).foldlM VideoScan.next (scanOf (some f)) =
      some (.opened f.header (f.report.rowsEmitted + outs.length)) := by
  have hrows (n : Nat) := foldlM_rows f.header (outs.map fun out => out.map Prod.fst) n
  rw [List.length_map] at hrows
  rw [rowPackets_of_rows h, scanOf]
  cases hsent : f.headerSent with
  | true => exact hrows _
  | false =>
    have hnone : f.report.rowsEmitted = 0 := by
      have := mt hf.mpr (by rw [hsent]; nofun)
      omega
    rw [hnone]
    exact hrows 0

/-- The packets of an abort close the port (R123, R124). -/
theorem scan_abortPackets {frame : Option Frame} (h : ∀ f ∈ frame, f.HeaderFirst) :
    (abortPackets frame).foldlM VideoScan.next (scanOf frame) = some .closed := by
  cases frame with
  | none => rfl
  | some f =>
    cases hsent : f.headerSent with
    | true => simp [abortPackets, scanOf, hsent, VideoScan.next]
    | false =>
      have hnone : f.report.rowsEmitted = 0 := by
        have := mt (h f rfl).mpr (by rw [hsent]; nofun)
        omega
      simp [abortPackets, scanOf, hsent, VideoScan.next, hnone]

section Video

variable {s t : State} {c : StreamConfig} {f : Frame}

theorem PixelPath.Consistent.config_of_frame {x : PixelPath} (h : x.Consistent) (hf : x.frame = some f) :
    ∃ c, x.config = some c := by
  refine Option.isSome_iff_exists.mp (h.configured fun hstopped => ?_)
  exact absurd (hf.symm.trans (h.frame_eq_none (.inl hstopped))) nofun

theorem PixelPath.Consistent.headerFirst {x : PixelPath} (h : x.Consistent) : ∀ f ∈ x.frame, f.HeaderFirst := by
  intro f hf
  obtain ⟨c, hc⟩ := h.config_of_frame hf
  obtain ⟨-, -, -, -, -, -, hsent, -⟩ := h.frameOk c hc f hf
  exact hsent

/-- What leaves the frame and the port alone keeps the port well formed. -/
theorem videoInv_of_eq (hs : s.VideoInv) (hframe : t.pixel.frame = s.pixel.frame)
    (hvideo : t.outputs.video = s.outputs.video) : t.VideoInv := by
  rw [videoInv_iff, hframe, hvideo]
  exact hs

theorem videoInv_of_framePath_eq (hs : s.VideoInv) (h : t.framePath = s.framePath) : t.VideoInv :=
  videoInv_of_eq hs (congrArg (fun x : FramePath => x.pixel.frame) h) (congrArg FramePath.video h)

/-- An abort leaves the port closed and no frame (R123, R124). -/
theorem videoInv_of_aborted (hpixel : s.pixel.Consistent) (hs : s.VideoInv) (hframe : t.pixel.frame = none)
    (hvideo : t.outputs.video = s.outputs.video ++ abortPackets s.pixel.frame) : t.VideoInv := by
  rw [videoInv_iff, hframe, hvideo, scanVideo_append (videoInv_iff.mp hs), scan_abortPackets hpixel.headerFirst]
  rfl

/-- With no frame before and after, nothing that is put out is due. -/
theorem videoInv_of_no_frame (hs : s.VideoInv) (hbefore : s.pixel.frame = none) (hafter : t.pixel.frame = none)
    (hvideo : t.outputs.video = s.outputs.video) : t.VideoInv :=
  videoInv_of_eq hs (hafter.trans hbefore.symm) hvideo

/-! ### The packets of the pixel input port -/

/-- The close of a frame puts out its rows up to H and one trailer that counts them (R113, R121, R123). -/
theorem closeFrame_videoInv (hpixel : s.pixel.Consistent) (hs : s.VideoInv) : s.closeFrame.VideoInv := by
  cases hf : s.pixel.frame with
  | none =>
    have hsame : s.closeFrame = s := by
      unfold State.closeFrame
      rw [hf]
      split
      · rename_i h
        cases h
      · rfl
    rwa [hsame]
  | some f =>
    obtain ⟨c, hc⟩ := hpixel.config_of_frame hf
    have hok := hpixel.frameOk c hc f hf
    have hlt := hok.emitted_lt (hpixel.accepted c hc)
    obtain ⟨g, hg, hwhole⟩ := exists_whole hpixel hc hf
    have hcount := closeOuts_length s c f
    have hfirst : g.HeaderFirst := by
      unfold Frame.HeaderFirst
      rw [hwhole.sent, hwhole.emitted]
      exact hpixel.headerFirst f hf
    have hscan : scanVideo s.outputs.video = some (scanOf (some g)) := by
      rw [videoInv_iff, hf] at hs
      rw [hs, scanOf, scanOf, hwhole.sent, hwhole.header, hwhole.emitted]
    have hheight : g.header.height = g.report.rowsEmitted + (s.closeOuts c f).length := by
      obtain ⟨-, hheight, -⟩ := hok
      rw [hwhole.header, hheight, hwhole.emitted, hcount]
      omega
    have htrailer : VideoScan.next (.opened g.header (g.report.rowsEmitted + (s.closeOuts c f).length))
        (.trailer (g.report.addRows (s.closeOuts c f))) = some .closed := by
      have hrows : (g.report.addRows (s.closeOuts c f)).rowsEmitted = g.report.rowsEmitted + (s.closeOuts c f).length := by
        rw [addRows_eq]
      simp [VideoScan.next, hrows, hheight]
    rw [closeFrame_eq_planned hpixel hc hf hg hwhole.emitted, videoInv_iff]
    dsimp only
    rw [plannedAtClose_outputs, List.append_assoc, scanVideo_append hscan, List.foldlM_append,
      scan_rowPackets hfirst (by omega), closed_eq]
    exact (bind_pure _).trans htrailer

theorem closeIfOpen_videoInv (hpixel : s.pixel.Consistent) (hs : s.VideoInv) : s.closeIfOpen.VideoInv := by
  unfold State.closeIfOpen
  split
  · exact closeFrame_videoInv hpixel hs
  · exact closeFrame_videoInv hpixel hs
  · exact hs

@[simp] theorem announce_outputs (s : State) : s.announce.outputs = s.outputs := by
  unfold State.announce
  split <;> rfl

/-- A header starts a frame whose header has not left (R108, R121). -/
theorem headerArrives_videoInv (hpixel : s.pixel.Consistent) (hs : s.VideoInv) (header : FrameHeader) :
    (s.headerArrives header).VideoInv := by
  have hclosed := closeIfOpen_videoInv hpixel hs
  unfold State.headerArrives
  dsimp only
  split
  · rename_i hwaiting
    have hnone := (closeIfOpen_consistent hpixel).frame_eq_none (.inr hwaiting)
    rw [videoInv_iff, hnone] at hclosed
    unfold State.judgeHeader
    dsimp only
    split
    · rw [videoInv_iff, State.startFrame, announce_pixel, announce_outputs]
      exact hclosed
    · rw [videoInv_iff, reportFault_pixel, reportFault_outputs, State.setPixel_pixel, State.setPixel_pixel, hnone]
      exact hclosed
  · exact hclosed

/-- An emitted row follows the header and the rows before it (R121). -/
theorem emitRow_videoInv (hs : s.VideoInv) (hf : s.pixel.frame = some f) (hfirst : f.HeaderFirst) (y : Nat) :
    (s.emitRow c y).VideoInv := by
  have hdrained := drained_emitRow (u := s) (g := f) c s.pixel.lineStore s.planner.queue [] y
  rw [drained_nil hf] at hdrained
  rw [videoInv_iff, hf] at hs
  rw [hdrained, videoInv_iff]
  change scanVideo (s.outputs.video ++ f.rowPackets _) = _
  rw [scanVideo_append hs, scan_rowPackets hfirst (by simp)]
  simp [State.drained, Frame.emitted, scanOf, FrameReport.addRows, FrameReport.addRow]

theorem acceptRow_videoInv (hpixel : s.pixel.Consistent) (hs : s.VideoInv) (hf : s.pixel.frame = some f) (row : Row) :
    (s.acceptRow c f row).VideoInv := by
  obtain ⟨g, hg, hadvanced⟩ := rowStored_advanced (c := c) row hf
  have houtputs : (s.rowStored c f row).outputs = s.outputs := by
    unfold State.rowStored
    dsimp only
    split
    · exact planBand_outputs _ _ _ _
    · rfl
  have hsent : g.headerSent = f.headerSent := by
    rw [Bool.eq_iff_iff, hadvanced.sent, Frame.countRow_headerSent]
    simp
  have hemitted : g.report.rowsEmitted = f.report.rowsEmitted := hadvanced.emitted
  have hstored : (s.rowStored c f row).VideoInv := by
    rw [videoInv_iff, hg, houtputs, scanOf, hsent, hadvanced.header, hemitted]
    rw [videoInv_iff, hf] at hs
    exact hs
  rw [acceptRow_eq]
  unfold State.afterStore
  split
  · refine emitRow_videoInv hstored hg ?_ _
    unfold Frame.HeaderFirst
    rw [hsent, hemitted]
    exact hpixel.headerFirst f hf
  · exact hstored

theorem rowArrives_videoInv (hpixel : s.pixel.Consistent) (hs : s.VideoInv) (row : Row) : (s.rowArrives row).VideoInv := by
  unfold State.rowArrives
  split
  · exact hs
  · unfold State.strayRow
    split
    · exact hs
    · exact videoInv_of_eq hs (by rw [reportFault_pixel]; rfl) (by rw [reportFault_outputs]; rfl)
  · split
    · rename_i c f hc hf
      split
      · exact acceptRow_videoInv hpixel hs hf row
      · unfold State.extraRow
        split
        · exact hs
        · rw [videoInv_iff, hf] at hs
          rw [videoInv_iff, reportFault_pixel, reportFault_outputs, State.setPixel_pixel, PixelPath.mapReport, hf]
          exact hs
    · exact hs

theorem State.Packet.videoInv (hpixel : s.pixel.Consistent) (hs : s.VideoInv) (h : s.Packet t) : t.VideoInv := by
  cases h with
  | header header => exact headerArrives_videoInv hpixel hs header
  | row row => exact rowArrives_videoInv hpixel hs row
  | frameEnd =>
    unfold State.endArrives
    split
    · exact hs
    · exact videoInv_of_eq hs rfl rfl
    · exact closeFrame_videoInv hpixel hs

/-! ### The other commands -/

/-- The frame path of a STREAM restart (R175). -/
theorem streamRestart_framePath (s : State) :
    s.streamRestart.framePath =
      ⟨s.running, { s.pixel with stream := .stopped, lineStore := [], frame := none, skip := false, orphan := false }, [],
        s.outputs.video ++ abortPackets s.pixel.frame⟩ := by
  unfold State.streamRestart State.handOverReport
  rw [abortOutput_eq]
  cases s.pixel.frame <;> rfl

theorem State.Deed.videoInv {r : Record} (hpixel : s.pixel.Consistent) (hs : s.VideoInv) (h : s.Deed r t) : t.VideoInv := by
  cases h with
  | pixel hx => exact videoInv_of_eq hs hx rfl
  | streamRestarted =>
    have hpath := streamRestart_framePath s
    exact videoInv_of_aborted hpixel hs (congrArg (fun x : FramePath => x.pixel.frame) hpath)
      (congrArg FramePath.video hpath)
  | _ => exact hs

theorem beginReset_videoInv (hpixel : s.pixel.Consistent) (hs : s.VideoInv) (run : ResetRun) (line : Bool) :
    ((s.beginReset run).setResetLine line).VideoInv := by
  rw [beginReset_eq]
  exact videoInv_of_aborted hpixel hs rfl rfl

theorem finishReset_frame (s : State) (run : ResetRun) : (s.finishReset run).pixel.frame = none := by
  unfold State.finishReset
  dsimp only
  split <;> rfl

theorem finishReset_outputs (s : State) (run : ResetRun) : (s.finishReset run).outputs = s.outputs := by
  unfold State.finishReset
  dsimp only
  split <;> simp [State.warmValues, State.coldValues, State.resetCommon]

theorem State.Does.videoInv {i : Instr} (hpixel : s.PixelInv) (hs : s.VideoInv)
    (hloss : i = .powerLoss → s.pixel.frame = none) (h : s.Does i t) : t.VideoInv := by
  obtain ⟨hconsistent, hstopped⟩ := pixelInv_iff.mp hpixel
  have idle (hrun : s.running = false) : s.pixel.frame = none := hconsistent.frame_eq_none (.inl (hstopped hrun))
  have inReset (hreset : s.resetRun.isSome = true) : s.running = false := by
    unfold State.running
    rw [Option.isNone_eq_false_iff.mpr hreset, Bool.and_false]
  have finished {u : State} (run : ResetRun) (hreset : s.resetRun.isSome = true) (hvideo : u.outputs = s.outputs) :
      (u.finishReset run).VideoInv :=
    videoInv_of_no_frame hs (idle (inReset hreset)) (finishReset_frame u run) (by rw [finishReset_outputs, hvideo])
  cases h with
  | idle => exact hs
  | taken _ _ htaken =>
    cases htaken with
    | unknown _ => exact hs
    | wrongLength _ _ => exact hs
    | answered _ _ _ ha =>
      cases ha with
      | refused _ _ => exact hs
      | outOfOrder _ _ => exact hs
      | done _ hdeed => exact (State.Deed.videoInv (s := s.removeOldest) hconsistent hs hdeed :)
    | begun _ => exact beginReset_videoInv (s := s.removeOldest) hconsistent hs _ _
  | controlBytes bytes => exact videoInv_of_framePath_eq hs (controlBytes_framePath s bytes)
  | lensBytes bytes => exact videoInv_of_framePath_eq hs (lensBytes_framePath s bytes)
  | packet _ hpacket => exact hpacket.videoInv hconsistent hs
  | sendReply => exact videoInv_of_framePath_eq hs (sendReply_framePath s)
  | sendNotice => exact videoInv_of_framePath_eq hs (sendNotice_framePath s)
  | sendEnd => exact videoInv_of_framePath_eq hs (sendEnd_framePath s)
  | poweredOn _ hoff =>
    have hrun : s.running = false := by rw [State.running, hoff]; rfl
    exact videoInv_of_no_frame hs (idle hrun) rfl rfl
  | powerLost hi _ =>
    refine videoInv_of_no_frame hs (hloss hi) rfl ?_
    rw [cutSending_eq]
    rfl
  | @lineAsserted run _ => exact beginReset_videoInv hconsistent hs run true
  | lineMoved x => exact hs
  | lineReleased _ _ hreset => exact finished _ hreset rfl
  | resetEnded _ _ hreset => exact finished _ hreset rfl

end Video

/-- Settles O52: the frame that ends puts out its one trailer, and every other command leaves the port where the frame is. -/
theorem outputInvariantKept : Obligations.OutputInvariantKept := by
  intro s t hpixel hs hloss hstep
  unfold step at hstep
  split at hstep
  · cases hstep
    exact hs
  · rename_i i rest hpending
    refine (does_of_exec hstep).videoInv (s := s.setPending rest) hpixel hs fun hi => hloss ?_
    rw [hpending, hi]
    rfl

end Sys2Proof.Machine

/-! PROOFS. The arrival of an accepted row (R109, R111, R118 to R121): what its storing, its band plan and the emission of the row
D behind it come to. -/

namespace Sys2Proof.Machine

section Accepting

variable {s : State} {c : StreamConfig} {f : Frame}

/-! ### The band plan of a row -/

/-- The plan of a band has its index and the frame number, and becomes the latest plan (R58, R59, R65). -/
theorem planBand_latest (s : State) (c : StreamConfig) (h : FrameHeader) (b : Nat) :
    ∃ p, (s.planBand c h b).planner.latest = some p ∧ p.band = b ∧ p.frameNumber = h.frameNumber.toNat := by
  obtain ⟨-, -, hband, hnumber, -⟩ :=
    makePlan_leaves (s.bandApply.evaluate (bandTime c h b)) ⟨h.frameNumber.toNat, b, bandTime c h b⟩ c.sMax
  exact ⟨_, rfl, hband, hnumber⟩

/-- The state in which an accepted row is counted and stored (R109 step 1). -/
def State.rowHeld (s : State) (c : StreamConfig) (f : Frame) (row : Row) : State :=
  { s with
    pixel := { s.pixel with
      lineStore := Machine.storeRow c.depth s.pixel.lineStore f.report.rowsReceived (fitRow c.width row)
      frame := some f.countRow } }

/-- An accepted row is counted and stored, and the band that it starts is then planned (R56, R109). -/
theorem rowStored_eq (hf : s.pixel.frame = some f) (row : Row) :
    s.rowStored c f row =
      if f.report.rowsReceived % c.hb = 0 then (s.rowHeld c f row).planBand c f.header (f.report.rowsReceived / c.hb)
      else s.rowHeld c f row := by
  have hheld : (s.setPixel (s.pixel.mapReport fun x => { x with rowsReceived := f.report.rowsReceived + 1 })).storeRow c
      f.report.rowsReceived (fitRow c.width row) = s.rowHeld c f row := by
    unfold State.storeRow State.rowHeld Frame.countRow
    rw [PixelPath.mapReport, hf]
    rfl
  unfold State.rowStored
  dsimp only
  rw [hheld]

/-- What an accepted row makes of the frame and of the plan queue before a row is emitted (R109, R173). -/
theorem exists_rowStored (hf : s.pixel.frame = some f) (row : Row) :
    ∃ plans : List Plan, plans.map Plan.band =
        (if f.report.rowsReceived % c.hb = 0 then [f.report.rowsReceived / c.hb] else []) ∧
      (s.rowStored c f row).pixel =
        { s.pixel with
          lineStore := storeRow c.depth s.pixel.lineStore f.report.rowsReceived (fitRow c.width row)
          frame := some { f with report := f.countRow.report.addPlans plans } } ∧
      (s.rowStored c f row).planner.queue = s.planner.queue ++ plans := by
  rw [rowStored_eq hf]
  split
  · obtain ⟨p, hband, hpixel, hqueue⟩ :=
      exists_planBand (s.rowHeld c f row) c f.header (f.report.rowsReceived / c.hb)
    exact ⟨[p], by rw [List.map_singleton, hband], hpixel, hqueue⟩
  · exact ⟨[], rfl, rfl, (List.append_nil _).symm⟩

/-- What an accepted row leaves alone (R58, R109). -/
theorem rowStored_leaves (hf : s.pixel.frame = some f) (row : Row) :
    { s.rowStored c f row with
      tracks := s.tracks, slots := s.slots, settings := s.settings, planner := s.planner, pixel := s.pixel
      watches := s.watches, notices := s.notices } = s := by
  rw [rowStored_eq hf]
  split
  · exact congrArg (fun t : State => { t with pixel := s.pixel }) (planBand_leaves (s.rowHeld c f row) c f.header _)
  · rfl

/-! ### The emission of the row D behind -/

/-- The rows that an accepted row emits: none until the lag is filled, then the row D behind it (R109 step 3). -/
def State.rowOuts (u : State) (c : StreamConfig) (r : Nat) : List (List (Pixel × Nat)) :=
  if c.lag ≤ r then [rowPixels u c (r - c.lag)] else []

/-- A release whose bound is below every row held releases none (R111). -/
theorem releaseRows_eq_self {bound : Nat} {store : List (Nat × Row)} (h : ∀ e ∈ store, bound ≤ e.1) :
    releaseRows bound store = store :=
  List.filter_eq_self.mpr fun e he => decide_eq_true (h e he)

/-- The indices of the rows held once an accepted row is stored (R111). -/
theorem stored_indices (hc : ConfigOk c) {store : List (Nat × Row)} (hok : FrameOk c f store) (row : Row) :
    (storeRow c.depth store f.report.rowsReceived row).map Prod.fst =
      List.range' (f.report.rowsReceived - c.lag - c.lead - 1)
        (f.report.rowsReceived + 1 - (f.report.rowsReceived - c.lag - c.lead - 1)) := by
  have hdepth := hc.depth_eq
  obtain ⟨-, -, -, -, -, -, -, -, -, hindex, -⟩ := hok
  rw [storeRow_indices (by omega) hindex,
    show f.report.rowsReceived + 1 - c.depth = f.report.rowsReceived - c.lag - c.lead - 1 by omega]

/-- The arrival of an accepted row: from the state after its band plan the row D behind it leaves (R109, R111). -/
theorem acceptRow_eq_drained (hc : ConfigOk c) (hok : FrameOk c f s.pixel.lineStore)
    (row : Row) {g : Frame} (hg : (s.rowStored c f row).pixel.frame = some g) :
    s.acceptRow c f row =
      (s.rowStored c f row).drained g (s.rowStored c f row).pixel.lineStore
        (if c.lag ≤ f.report.rowsReceived then
          queueAfterRow c (s.rowStored c f row).planner.queue (f.report.rowsReceived - c.lag)
        else (s.rowStored c f row).planner.queue)
        ((s.rowStored c f row).rowOuts c f.report.rowsReceived) := by
  have hreleased : releaseRows (f.report.rowsReceived - c.lag - c.lead - 1) (s.rowStored c f row).pixel.lineStore =
      (s.rowStored c f row).pixel.lineStore := by
    refine releaseRows_eq_self fun e he => ?_
    have hindex := List.mem_map_of_mem (f := Prod.fst) he
    rw [rowStored_lineStore, stored_indices hc hok, List.mem_range'_1] at hindex
    exact hindex.1
  have hsame := drained_nil hg
  rw [acceptRow_eq]
  unfold State.afterStore State.rowOuts
  dsimp only
  split
  · have hemitted := drained_emitRow (u := s.rowStored c f row) (g := g) c (s.rowStored c f row).pixel.lineStore
      (s.rowStored c f row).planner.queue [] (f.report.rowsReceived - c.lag)
    rw [hsame] at hemitted
    rw [hemitted, drained_releaseBelow, hreleased]
    rfl
  · rw [hsame, State.releaseBelow, hreleased]
    rfl

/-- Plans of other bands do not make a row (R63). -/
theorem rowPlan_append {queue plans : List Plan} {y : Nat} (h : ∀ p ∈ plans, p.band ≠ y / c.hb) :
    rowPlan c (queue ++ plans) y = rowPlan c queue y := by
  have hnone : plans.find? (fun p => p.band == y / c.hb) = none :=
    List.find?_eq_none.mpr fun p hp => by simpa using h p hp
  rw [rowPlan, rowPlan, List.find?_append, hnone, Option.or_none]

/-- The band that an accepted row starts is not the band of the row that it emits (R104). -/
theorem startedBand_ne (hc : ConfigOk c) {r : Nat} (hlag : c.lag ≤ r) {plans : List Plan}
    (hplans : plans.map Plan.band = if r % c.hb = 0 then [r / c.hb] else []) :
    ∀ p ∈ plans, p.band ≠ (r - c.lag) / c.hb := by
  intro p hp
  have hband := List.mem_map_of_mem (f := Plan.band) hp
  have htwo := hc.two_le_lag
  rw [hplans] at hband
  split at hband
  · rename_i hstart
    rw [List.mem_singleton.mp hband]
    have hlater : (r - c.lag) / c.hb < r / c.hb := by
      rw [Nat.div_lt_iff_lt_mul hc.hb_pos, Nat.div_mul_cancel (Nat.dvd_of_mod_eq_zero hstart)]
      omega
    omega
  · cases hband

/-- The plans that stay once an output row has left are those whose band does not end with it (R54, R64). -/
theorem queueAfterRow_eq (hc : ConfigOk c) (queue : List Plan) (y : Nat) :
    queueAfterRow c queue y = queue.filter fun p => min c.height ((p.band + 1) * c.hb) ≠ y + 1 := by
  have hhb := hc.hb_pos
  obtain ⟨-, -, hheight, -⟩ := hc
  refine List.filter_congr fun p _ => ?_
  have hpos : 0 < (p.band + 1) * c.hb := Nat.mul_pos (Nat.succ_pos _) hhb
  rw [Bool.eq_iff_iff, bne_iff_ne, decide_eq_true_eq, StreamConfig.lastRow]
  omega

theorem drained_outputs (u : State) (g : Frame) (store : List (Nat × Row)) (queue : List Plan)
    (outs : List (List (Pixel × Nat))) :
    (u.drained g store queue outs).outputs = { u.outputs with video := u.outputs.video ++ g.rowPackets outs } := rfl

theorem addRows_keeps (r : FrameReport) (outs : List (List (Pixel × Nat))) :
    { r with rowsEmitted := (r.addRows outs).rowsEmitted, saturation := (r.addRows outs).saturation } = r.addRows outs := by
  have hcount : (r.addRows outs).rowsEmitted = r.rowsEmitted + outs.length := by rw [addRows_eq]
  rw [hcount]
  exact (addRows_eq r outs).symm

end Accepting

/-- Settles O45: the row is stored, its band is planned, and the row D behind it is emitted from the rows then held. -/
theorem acceptedRowIsStoredAndEmits : Obligations.AcceptedRowIsStoredAndEmits := by
  intro row s c f hpixel hrun hc hf hreceived r
  have hconsistent := (pixelInv_iff.mp hpixel).pixel
  have haccepted := hconsistent.accepted c hc
  have hok := hconsistent.frameOk c hc f hf
  have hexec : exec (.inputRow row) s = .next (s.acceptRow c f row) := by
    rw [← rowArrives_eq_acceptRow hconsistent hc hf hreceived row]
    exact congrArg Host.Outcome.next (if_pos hrun)
  obtain ⟨plans, hbands, hstored, hqueue⟩ := exists_rowStored (c := c) hf row
  have hleaves := rowStored_leaves (c := c) hf row
  have houtputs : (s.rowStored c f row).outputs = s.outputs := (congrArg State.outputs hleaves :)
  obtain ⟨hrest, hcount⟩ := addPlans_eq f.countRow.report plans
  have hframe := congrArg PixelPath.frame hstored
  have hstore : (s.rowStored c f row).pixel.lineStore =
      storeRow c.depth s.pixel.lineStore f.report.rowsReceived (fitRow c.width row) := congrArg PixelPath.lineStore hstored
  have hplanned := rowStored_eq (c := c) hf row
  have hrows := addRows_eq (f.countRow.report.addPlans plans) ((s.rowStored c f row).rowOuts c f.report.rowsReceived)
  have hsaturation : (f.countRow.report.addPlans plans).saturation = f.report.saturation :=
    (congrArg FrameReport.saturation hrest :)
  have hlength : ((s.rowStored c f row).rowOuts c f.report.rowsReceived).length =
      if c.lag ≤ f.report.rowsReceived then 1 else 0 := by
    unfold State.rowOuts
    split <;> rfl
  have hindices := stored_indices haccepted hok (fitRow c.width row)
  rw [acceptRow_eq_drained haccepted hok row hframe, hstore] at hexec
  refine ⟨_, _, hexec, rfl, rfl, ?_, ?_, ?_, ?_, ?_, ?_, ?_, ?_, ?_, ?_, ?_, ?_, ?_⟩
  · change ((f.countRow.report.addPlans plans).addRows _).rowsReceived = _
    rw [hrows]
    exact (congrArg FrameReport.rowsReceived hrest :)
  · change ((f.countRow.report.addPlans plans).addRows _).rowsEmitted = _
    obtain ⟨-, -, -, -, hemitted, -⟩ := hok
    have hkept : (f.countRow.report.addPlans plans).rowsEmitted = f.report.rowsEmitted :=
      (congrArg FrameReport.rowsEmitted hrest :)
    rw [hrows]
    dsimp only
    rw [hkept, hlength, hemitted]
    split <;> omega
  · change ((f.countRow.report.addPlans plans).addRows _).bandsPlanned = _
    have hone : plans.length = if f.report.rowsReceived % c.hb = 0 then 1 else 0 := by
      rw [← List.length_map (f := Plan.band), hbands]
      split <;> rfl
    rw [hrows]
    exact hcount.trans (by rw [hone]; rfl)
  · exact hindices
  · exact List.mem_append_right _ (List.mem_singleton_self _)
  · intro e he hne
    rcases List.mem_append.mp he with he | he
    · exact (List.mem_filter.mp he).1
    · exact absurd (congrArg Prod.fst (List.mem_singleton.mp he)) hne
  · intro hearly
    have hnone : (s.rowStored c f row).rowOuts c f.report.rowsReceived = [] := if_neg (Nat.not_le_of_lt hearly)
    rw [hnone]
    refine ⟨?_, hsaturation⟩
    rw [drained_outputs, houtputs]
    simp [Frame.rowPackets]
  · intro hlag y plan out
    have hplan : rowPlan c (s.rowStored c f row).planner.queue y = rowPlan c s.planner.queue y := by
      rw [hqueue]
      exact rowPlan_append (startedBand_ne haccepted hlag hbands)
    have hout : (s.rowStored c f row).rowOuts c f.report.rowsReceived = [out] := by
      rw [State.rowOuts, if_pos hlag, rowPixels, hplan, hstore]
      rfl
    rw [hout]
    refine ⟨by simp [out, outputPixels], ?_, fun hle => ?_⟩
    · rw [drained_outputs, houtputs, rowPackets_of_rows (by simp), List.append_assoc]
      rfl
    · change ((f.countRow.report.addPlans plans).addRows [out]).saturation = _
      rw [addRows_saturation (hsaturation ▸ hle), hsaturation]
      simp
  · change { (s.rowStored c f row).pixel with lineStore := s.pixel.lineStore, frame := s.pixel.frame } = s.pixel
    rw [hstored]
  · exact congrArg (fun t : State => { t with outputs := s.outputs }) hleaves
  · intro stored planned
    have hsame : planned = s.rowStored c f row := hplanned.symm
    clear_value planned
    subst hsame
    refine ⟨rfl, rfl, ?_, _, hframe, addRows_keeps _ _⟩
    change (if c.lag ≤ f.report.rowsReceived then _ else _) = _
    rw [queueAfterRow_eq haccepted]
    by_cases hlag : c.lag ≤ f.report.rowsReceived
    · rw [if_pos hlag, if_neg (Nat.not_lt_of_le hlag)]
    · rw [if_neg hlag, if_pos (Nat.lt_of_not_le hlag)]
  · intro hstart
    have hlatest := planBand_latest (s.rowHeld c f row) c f.header (f.report.rowsReceived / c.hb)
    rw [← (hplanned.trans (if_pos hstart) : s.rowStored c f row = _)] at hlatest
    exact hlatest
  · intro hmiddle
    have hsame : s.rowStored c f row = s.rowHeld c f row := hplanned.trans (if_neg hmiddle)
    rw [hsame]
    refine ⟨rfl, rfl, fun p hp => ?_⟩
    change p ∈ if c.lag ≤ f.report.rowsReceived then _ else _ at hp
    split at hp
    · exact (List.mem_filter.mp hp).1
    · exact hp

end Sys2Proof.Machine

/-! PROOFS. The receivers of the two links (R181 to R187, R193). First one turn of each hunt, and what more bytes make of it; then
the statements on the bytes that arrive. -/

namespace Sys2Proof.Machine

/-! ### What more bytes make of a record -/

/-- A record that fails, or is whole, stays so when more bytes come (R182). -/
theorem receiveRecord_append (a b : List Byte) :
    (receiveRecord a = .failed → receiveRecord (a ++ b) = .failed) ∧
    ∀ r rest, receiveRecord a = .good r rest → receiveRecord (a ++ b) = .good r (rest ++ b) := by
  match a with
  | [] | [_] => exact ⟨nofun, nofun⟩
  | l0 :: l1 :: body =>
    unfold receiveRecord
    dsimp only [List.cons_append]
    by_cases hlen : leNat [l0, l1] < 2 ∨ 1026 < leNat [l0, l1]
    · simp only [if_pos hlen]
      exact ⟨fun _ => trivial, nofun⟩
    · by_cases hshort : body.length < leNat [l0, l1] + 2
      · simp only [if_neg hlen, if_pos hshort]
        exact ⟨nofun, nofun⟩
      · have hlong : ¬ (body ++ b).length < leNat [l0, l1] + 2 := by
          rw [List.length_append]
          omega
        have htake : (body ++ b).take (leNat [l0, l1]) = body.take (leNat [l0, l1]) :=
          List.take_append_of_le_length (by omega)
        have hcrc : ((body ++ b).drop (leNat [l0, l1])).take 2 = (body.drop (leNat [l0, l1])).take 2 := by
          rw [List.drop_append_of_le_length (by omega), List.take_append_of_le_length (by rw [List.length_drop]; omega)]
        have hrest : (body ++ b).drop (leNat [l0, l1] + 2) = body.drop (leNat [l0, l1] + 2) ++ b :=
          List.drop_append_of_le_length (by omega)
        simp only [if_neg hlen, if_neg hshort, if_neg hlong, htake, hcrc, hrest]
        by_cases hbad : (crc16 (l0 :: l1 :: body.take (leNat [l0, l1]))).toNat ≠
            leNat ((body.drop (leNat [l0, l1])).take 2)
        · simp only [if_pos hbad]
          exact ⟨fun _ => trivial, nofun⟩
        · simp only [if_neg hbad]
          match body.take (leNat [l0, l1]) with
          | [] | [_] => exact ⟨fun _ => rfl, nofun⟩
          | kind :: tag :: content => exact ⟨nofun, fun r rest h => by cases h; rfl⟩

/-- A record passed over, or of a bad length, stays so when more bytes come (R187). -/
theorem passRecord_append (a b : List Byte) :
    (passRecord a = .badLength → passRecord (a ++ b) = .badLength) ∧
    ∀ rest, passRecord a = .passed rest → passRecord (a ++ b) = .passed (rest ++ b) := by
  match a with
  | [] | [_] => exact ⟨nofun, nofun⟩
  | l0 :: l1 :: body =>
    unfold passRecord
    dsimp only [List.cons_append]
    by_cases hlen : leNat [l0, l1] < 2 ∨ 1026 < leNat [l0, l1]
    · simp only [if_pos hlen]
      exact ⟨fun _ => trivial, nofun⟩
    · by_cases hshort : body.length < leNat [l0, l1] + 2
      · simp only [if_neg hlen, if_pos hshort]
        exact ⟨nofun, nofun⟩
      · have hlong : ¬ (body ++ b).length < leNat [l0, l1] + 2 := by
          rw [List.length_append]
          omega
        have hrest : (body ++ b).drop (leNat [l0, l1] + 2) = body.drop (leNat [l0, l1] + 2) ++ b :=
          List.drop_append_of_le_length (by omega)
        simp only [if_neg hlen, if_neg hshort, if_neg hlong, hrest]
        exact ⟨nofun, fun rest h => by cases h; rfl⟩

/-- A record fails on a length out of range or a CRC that is not that of its bytes (R182). -/
theorem receiveRecord_failed {l0 l1 : Byte} {rest : List Byte}
    (h : leNat [l0, l1] < 2 ∨ 1026 < leNat [l0, l1] ∨
      (leNat [l0, l1] + 2 ≤ rest.length ∧
        (crc16 (l0 :: l1 :: rest.take (leNat [l0, l1]))).toNat ≠ leNat ((rest.drop (leNat [l0, l1])).take 2))) :
    receiveRecord (l0 :: l1 :: rest) = .failed := by
  unfold receiveRecord
  dsimp only
  rw [← or_assoc] at h
  by_cases hlen : leNat [l0, l1] < 2 ∨ 1026 < leNat [l0, l1]
  · rw [if_pos hlen]
  · obtain ⟨hlong, hcrc⟩ := h.resolve_left hlen
    rw [if_neg hlen, if_neg (by omega), if_pos hcrc]

/-- The bytes of a record are passed over whole, whatever their CRC (R187). -/
theorem passRecord_unchecked {l0 l1 : Byte} {unchecked : List Byte} (hlen : Within 2 1026 (leNat [l0, l1]))
    (hlength : unchecked.length = leNat [l0, l1] + 2) (more : List Byte) :
    passRecord (l0 :: l1 :: (unchecked ++ more)) = .passed more := by
  obtain ⟨hlo, hhi⟩ := hlen
  unfold passRecord
  dsimp only
  rw [if_neg (by omega), if_neg (by rw [List.length_append]; omega), ← hlength, List.drop_left]

theorem passRecord_badLength {l0 l1 : Byte} {rest : List Byte} (hlen : ¬ Within 2 1026 (leNat [l0, l1])) :
    passRecord (l0 :: l1 :: rest) = .badLength := by
  unfold passRecord
  dsimp only
  rw [if_pos (by unfold Within at hlen; omega)]

/-- The bytes of a record: its start byte, the two bytes of its length, and as many bytes after them as the length and the CRC have
(R181). -/
theorem recordBytes_eq {r : Record} (h : r.body.length ≤ 1024) :
    ∃ l0 l1 unchecked, recordBytes r = startByte :: l0 :: l1 :: unchecked ∧ Within 2 1026 (leNat [l0, l1]) ∧
      unchecked.length = leNat [l0, l1] + 2 := by
  have hlen : leNat (leBytes 2 (r.body.length + 2)) = r.body.length + 2 := by
    rw [leNat_leBytes]
    omega
  refine ⟨BitVec.ofNat 8 (r.body.length + 2), BitVec.ofNat 8 ((r.body.length + 2) / 256),
    r.kind :: r.tag :: r.body ++ leBytes 2 (crc16 (recordContent r)).toNat, rfl, ?_, ?_⟩
  · rw [show [BitVec.ofNat 8 (r.body.length + 2), BitVec.ofNat 8 ((r.body.length + 2) / 256)] =
      leBytes 2 (r.body.length + 2) from rfl, hlen]
    exact ⟨by omega, by omega⟩
  · rw [show [BitVec.ofNat 8 (r.body.length + 2), BitVec.ofNat 8 ((r.body.length + 2) / 256)] =
      leBytes 2 (r.body.length + 2) from rfl, hlen]
    simp

/-! ### The hunt of the control link -/

/-- What the hunt makes of the bytes does not depend on what was being received before. -/
theorem hunt_receiver (n : Nat) (bytes : List Byte) (c : ControlLink) (x : Receiver) :
    ControlLink.hunt n bytes { c with receiver := x } = ControlLink.hunt n bytes c := by
  induction n generalizing bytes c with
  | zero => rfl
  | succ n ih =>
    cases bytes with
    | nil => rfl
    | cons b bytes =>
      unfold ControlLink.hunt
      split
      · exact ih bytes c
      · dsimp only
        split
        · unfold ControlLink.receive
          split
          · rfl
          · exact ih _ c.countCrc
          · exact ih _ (c.enter _)
        · unfold ControlLink.pass
          split
          · rfl
          · exact ih _ c.countNotReady
          · exact ih _ c.countNotReady

theorem receive_receiver (bytes : List Byte) (c : ControlLink) (x : Receiver) :
    ({ c with receiver := x } : ControlLink).receive ControlLink.huntAll bytes = c.receive ControlLink.huntAll bytes := by
  unfold ControlLink.receive
  split
  · rfl
  · exact hunt_receiver _ _ c.countCrc x
  · exact hunt_receiver _ _ (c.enter _) x

theorem pass_receiver (bytes : List Byte) (c : ControlLink) (x : Receiver) :
    ({ c with receiver := x } : ControlLink).pass ControlLink.huntAll bytes = c.pass ControlLink.huntAll bytes := by
  unfold ControlLink.pass
  split
  · rfl
  · exact hunt_receiver _ _ c x
  · exact hunt_receiver _ _ c x

/-- One turn of the hunt: a byte that is no start byte is left, and a start byte is treated by the ready line (R182, R187). -/
theorem huntAll_cons (b : Byte) (bytes : List Byte) (c : ControlLink) :
    ControlLink.huntAll (b :: bytes) c =
      if b ≠ startByte then ControlLink.huntAll bytes c
      else if c.ready then c.receive ControlLink.huntAll bytes
      else c.countNotReady.pass ControlLink.huntAll bytes := by
  have turn (rest : List Byte) (d : ControlLink) (h : rest.length ≤ bytes.length) :
      ControlLink.hunt (bytes.length + 1) rest d = ControlLink.huntAll rest d := hunt_eq_huntAll d (by omega)
  rw [ControlLink.huntAll, List.length_cons, ControlLink.hunt]
  split
  · exact turn bytes c le_rfl
  · split
    · unfold ControlLink.receive
      split
      · rfl
      · exact turn _ _ le_rfl
      · exact turn _ _ (receiveRecord_rest ‹_›)
    · unfold ControlLink.pass
      split
      · rfl
      · exact turn _ _ le_rfl
      · exact turn _ _ (passRecord_rest ‹_›)

/-- With no start byte among them bytes come to nothing (R182). -/
theorem huntAll_of_notMem {bytes : List Byte} (h : startByte ∉ bytes) (c : ControlLink) :
    ControlLink.huntAll bytes c = { c with receiver := .hunting } := by
  induction bytes with
  | nil => rfl
  | cons b bytes ih =>
    obtain ⟨hne, hrest⟩ := not_or.mp (mt List.mem_cons.mpr h)
    rw [huntAll_cons, if_pos (Ne.symm hne), ih hrest]

section Split

variable (b : List Byte) {n : Nat}

/-- The bytes `b` are received after the bytes `a` as they would be with them, by a hunt over at most `n` bytes. -/
def HuntsOn (n : Nat) : Prop :=
  ∀ (a : List Byte) (c : ControlLink), a.length ≤ n → (ControlLink.huntAll a c).feed b = ControlLink.huntAll (a ++ b) c

variable {b}

theorem receive_append (h : HuntsOn b n) {a : List Byte} (ha : a.length ≤ n) (c : ControlLink) :
    (c.receive ControlLink.huntAll a).feed b = c.receive ControlLink.huntAll (a ++ b) := by
  obtain ⟨hfailed, hgood⟩ := receiveRecord_append a b
  cases hr : receiveRecord a with
  | incomplete =>
    have hwaiting : c.receive ControlLink.huntAll a = { c with receiver := .receiving a } := by
      rw [ControlLink.receive, hr]
    rw [hwaiting]
    exact receive_receiver _ c _
  | failed =>
    rw [ControlLink.receive, hr, ControlLink.receive, hfailed hr]
    exact h a _ ha
  | good r rest =>
    rw [ControlLink.receive, hr, ControlLink.receive, hgood r rest hr]
    exact h rest _ ((receiveRecord_rest hr).trans ha)

theorem pass_append (h : HuntsOn b n) {a : List Byte} (ha : a.length ≤ n) (c : ControlLink) :
    (c.pass ControlLink.huntAll a).feed b = c.pass ControlLink.huntAll (a ++ b) := by
  obtain ⟨hbad, hpassed⟩ := passRecord_append a b
  cases hr : passRecord a with
  | incomplete =>
    have hwaiting : c.pass ControlLink.huntAll a = { c with receiver := .passing a } := by
      rw [ControlLink.pass, hr]
    rw [hwaiting]
    exact pass_receiver _ c _
  | badLength =>
    rw [ControlLink.pass, hr, ControlLink.pass, hbad hr]
    exact h a _ ha
  | passed rest =>
    rw [ControlLink.pass, hr, ControlLink.pass, hpassed rest hr]
    exact h rest _ ((passRecord_rest hr).trans ha)

theorem huntsOn (b : List Byte) (n : Nat) : HuntsOn b n := by
  have empty (c : ControlLink) : (ControlLink.huntAll [] c).feed b = ControlLink.huntAll b c := hunt_receiver _ b c .hunting
  induction n with
  | zero =>
    intro a c ha
    rw [List.length_eq_zero_iff.mp (Nat.le_zero.mp ha)]
    exact empty c
  | succ n ih =>
    intro a c ha
    cases a with
    | nil => exact empty c
    | cons x a =>
      have hlength : a.length ≤ n := Nat.le_of_succ_le_succ ha
      rw [List.cons_append, huntAll_cons, huntAll_cons]
      split
      · exact ih a c hlength
      · split
        · exact receive_append ih hlength c
        · exact pass_append ih hlength _

/-- The control link takes bytes as they come (R182, R187). -/
theorem feed_append (c : ControlLink) (a b : List Byte) : (c.feed a).feed b = c.feed (a ++ b) := by
  unfold ControlLink.feed
  cases c.receiver with
  | hunting => exact huntsOn b _ a c le_rfl
  | receiving got => exact (receive_append (huntsOn b _) le_rfl c).trans (by rw [List.append_assoc])
  | passing got => exact (pass_append (huntsOn b _) le_rfl c).trans (by rw [List.append_assoc])

end Split

/-! ### The hunt of the lens link -/

/-- The lens link's receiver hunting over all of `bytes` (R182). -/
def lensHuntAll (bytes : List Byte) : LensScan := lensHunt (bytes.length + 1) bytes

theorem lensReceive_congr {bytes : List Byte} {f g : List Byte → LensScan}
    (h : ∀ rest, rest.length ≤ bytes.length → f rest = g rest) : lensReceive f bytes = lensReceive g bytes := by
  unfold lensReceive
  split
  · rfl
  · rw [h bytes le_rfl]
  · rw [h _ (receiveRecord_rest ‹_›)]

/-- The hunt does not depend on its bound on turns, when that is above the number of bytes (R182). -/
theorem lensHunt_eq {n : Nat} {bytes : List Byte} (h : bytes.length < n) : lensHunt n bytes = lensHuntAll bytes := by
  have agree : ∀ (n m : Nat) (bytes : List Byte), bytes.length < n → bytes.length < m → lensHunt n bytes = lensHunt m bytes := by
    intro n
    induction n with
    | zero => intro m bytes h; omega
    | succ n ih =>
      intro m bytes hn hm
      obtain ⟨m, rfl⟩ := Nat.exists_eq_succ_of_ne_zero (show m ≠ 0 by omega)
      cases bytes with
      | nil => rfl
      | cons b bytes =>
        simp only [List.length_cons] at hn hm
        unfold lensHunt
        split
        · exact ih m bytes (by omega) (by omega)
        · exact lensReceive_congr fun rest hrest => ih m rest (by omega) (by omega)
  exact agree n _ bytes h (Nat.lt_succ_self _)

theorem lensHuntAll_cons (b : Byte) (bytes : List Byte) :
    lensHuntAll (b :: bytes) = if b ≠ startByte then lensHuntAll bytes else lensReceive lensHuntAll bytes := by
  rw [lensHuntAll, List.length_cons, lensHunt]
  split
  · rfl
  · exact lensReceive_congr fun rest hrest => lensHunt_eq (Nat.lt_succ_of_le hrest)

theorem lensFeed_eq (receiver : Receiver) (bytes : List Byte) :
    lensFeed receiver bytes =
      match receiver with
      | .receiving got => lensReceive lensHuntAll (got ++ bytes)
      | _ => lensHuntAll bytes := by
  cases receiver <;> rfl

/-- One scan after another. -/
def LensScan.andThen (x y : LensScan) : LensScan := ⟨x.events ++ y.events, y.receiver⟩

theorem lensHuntAll_of_notMem {bytes : List Byte} (h : startByte ∉ bytes) : lensHuntAll bytes = ⟨[], .hunting⟩ := by
  induction bytes with
  | nil => rfl
  | cons b bytes ih =>
    obtain ⟨hne, hrest⟩ := not_or.mp (mt List.mem_cons.mpr h)
    rw [lensHuntAll_cons, if_pos (Ne.symm hne), ih hrest]

section LensSplit

variable {b : List Byte} {n : Nat}

/-- More bytes after a hunt over at most `n` bytes are scanned as they would be with them. -/
def LensHuntsOn (b : List Byte) (n : Nat) : Prop :=
  ∀ a : List Byte, a.length ≤ n →
    lensHuntAll (a ++ b) = (lensHuntAll a).andThen (lensFeed (lensHuntAll a).receiver b)

theorem lensReceive_append (h : LensHuntsOn b n) {a : List Byte} (ha : a.length ≤ n) :
    lensReceive lensHuntAll (a ++ b) =
      (lensReceive lensHuntAll a).andThen (lensFeed (lensReceive lensHuntAll a).receiver b) := by
  obtain ⟨hfailed, hgood⟩ := receiveRecord_append a b
  cases hr : receiveRecord a with
  | incomplete =>
    have hwaiting : lensReceive lensHuntAll a = ⟨[], .receiving a⟩ := by rw [lensReceive, hr]
    rw [hwaiting]
    rfl
  | failed =>
    have hscan : lensReceive lensHuntAll a = { lensHuntAll a with events := none :: (lensHuntAll a).events } := by
      rw [lensReceive, hr]
    rw [hscan, lensReceive, hfailed hr, h a ha]
    rfl
  | good r rest =>
    have hscan : lensReceive lensHuntAll a = { lensHuntAll rest with events := some r :: (lensHuntAll rest).events } := by
      rw [lensReceive, hr]
    rw [hscan, lensReceive, hgood r rest hr]
    dsimp only
    rw [h rest ((receiveRecord_rest hr).trans ha)]
    rfl

theorem lensHuntsOn (b : List Byte) (n : Nat) : LensHuntsOn b n := by
  induction n with
  | zero =>
    intro a ha
    rw [List.length_eq_zero_iff.mp (Nat.le_zero.mp ha)]
    rfl
  | succ n ih =>
    intro a ha
    cases a with
    | nil => rfl
    | cons x a =>
      have hlength : a.length ≤ n := Nat.le_of_succ_le_succ ha
      rw [List.cons_append, lensHuntAll_cons, lensHuntAll_cons]
      split
      · exact ih a hlength
      · exact lensReceive_append ih hlength

/-- The lens link takes bytes as they come (R182). -/
theorem lensFeed_append (receiver : Receiver) (a b : List Byte) :
    lensFeed receiver (a ++ b) = (lensFeed receiver a).andThen (lensFeed (lensFeed receiver a).receiver b) := by
  cases receiver with
  | receiving got =>
    have h := lensReceive_append (lensHuntsOn b (got ++ a).length) (a := got ++ a) le_rfl
    rw [List.append_assoc] at h
    exact h
  | _ => exact lensHuntsOn b _ a le_rfl

end LensSplit

/-! ### What the lens link does with what it has received -/

section LensEvents

variable (s : State)

/-- What the lens link does with one outcome does not depend on what it is receiving. -/
theorem lensEvent_setReceiver (e : Option Record) (x : Receiver) :
    (s.setLens { s.lens with receiver := x }).lensEvent e =
      (s.lensEvent e).setLens { (s.lensEvent e).lens with receiver := x } := by
  unfold State.lensEvent
  split <;> rfl

theorem lensEvents_setReceiver (events : List (Option Record)) (x : Receiver) :
    events.foldl State.lensEvent (s.setLens { s.lens with receiver := x }) =
      (events.foldl State.lensEvent s).setLens { (events.foldl State.lensEvent s).lens with receiver := x } := by
  induction events generalizing s with
  | nil => rfl
  | cons e events ih => rw [List.foldl_cons, List.foldl_cons, lensEvent_setReceiver, ih]

theorem lensEvents_running (events : List (Option Record)) :
    (events.foldl State.lensEvent s).running = s.running := by
  have hevent (t : State) (e : Option Record) : (t.lensEvent e).running = t.running := by
    unfold State.lensEvent
    split <;> rfl
  exact List.foldlRecOn (motive := fun t : State => t.running = s.running) _ _ rfl
    fun t ht e _ => (hevent t e).trans ht

/-- Bytes on the lens link: what they have made is carried out, and the receiver stands where they left it (R193). -/
theorem lensBytes_of_running (h : s.running = true) (bytes : List Byte) :
    s.lensBytes bytes =
      let scan := lensFeed s.lens.receiver bytes
      let t := scan.events.foldl State.lensEvent s
      t.setLens { t.lens with receiver := scan.receiver } := by
  rw [State.lensBytes, if_pos h]
  exact lensEvents_setReceiver s _ _

theorem lensBytes_append (a b : List Byte) : (s.lensBytes a).lensBytes b = s.lensBytes (a ++ b) := by
  by_cases h : s.running = true
  · have hrunning : (s.lensBytes a).running = true := by
      rw [lensBytes_of_running s h]
      exact (lensEvents_running s _).trans h
    have hreceiver : (s.lensBytes a).lens.receiver = (lensFeed s.lens.receiver a).receiver := by
      rw [lensBytes_of_running s h]
      rfl
    rw [lensBytes_of_running _ hrunning, hreceiver, lensBytes_of_running s h, lensBytes_of_running s h, lensFeed_append]
    dsimp only [LensScan.andThen]
    rw [List.foldl_append, lensEvents_setReceiver]
    rfl
  · have hidle (t : List Byte) : s.lensBytes t = s := if_neg h
    rw [hidle, hidle, hidle]

end LensEvents

/-! ### The statements -/

section Arrival

variable {s : State} (bytes : List Byte)

theorem exec_controlBytes (s : State) : exec (.controlRecordArrival bytes) s = .next (s.controlBytes bytes) := rfl

theorem exec_notReadyBytes (s : State) : exec (.notReadyRecord bytes) s = .next (s.controlBytes bytes) := rfl

theorem exec_lensBytes (s : State) : exec (.lensRecordArrival bytes) s = .next (s.lensBytes bytes) := rfl

/-- Bytes on the control link of a powered part that hunts. -/
theorem controlBytes_of_hunting (hpowered : s.powered = true) (hreceiver : s.control.receiver = .hunting) :
    s.controlBytes bytes = s.setControl (ControlLink.huntAll bytes s.control) := by
  rw [State.controlBytes, if_pos hpowered, ControlLink.feed, hreceiver]

theorem controlBytes_append (s : State) (a b : List Byte) : (s.controlBytes a).controlBytes b = s.controlBytes (a ++ b) := by
  by_cases h : s.powered = true
  · have hstep (t : State) (ht : t.powered = true) (x : List Byte) : t.controlBytes x = t.setControl (t.control.feed x) :=
      if_pos ht
    rw [hstep s h, hstep s h, hstep (s.setControl (s.control.feed a)) h, ← feed_append]
    rfl
  · have hidle (x : List Byte) : s.controlBytes x = s := if_neg h
    rw [hidle, hidle, hidle]

/-- A control link that hunts stays as it is when no start byte comes. -/
theorem huntAll_idle {c : ControlLink} (h : startByte ∉ bytes) (hreceiver : c.receiver = .hunting) :
    ControlLink.huntAll bytes c = c := by
  rw [huntAll_of_notMem h, ← hreceiver]

end Arrival

/-- Settles O11: each receiver takes two lists of bytes as their concatenation. -/
theorem bytesArriveInAnySplit : Obligations.BytesArriveInAnySplit := by
  refine fun a b s t => ⟨fun h => ?_, fun h => ?_⟩
  · cases h
    exact congrArg Host.Outcome.next (controlBytes_append s a b)
  · cases h
    exact congrArg Host.Outcome.next (lensBytes_append s a b)

/-- Settles O8: the bytes of a record are received as it, and nothing is left of them. -/
theorem goodRecordEntersBuffer : Obligations.GoodRecordEntersBuffer := by
  intro r s hbody hpowered hreceiver hready
  have hreceived := receiveRecord_recordBytes r [] hbody
  rw [List.append_nil] at hreceived
  have hentered : ControlLink.huntAll (recordBytes r) s.control = { s.control.enter r with receiver := .hunting } := by
    change ControlLink.huntAll (startByte :: (recordBytes r).tail) s.control = _
    rw [huntAll_cons, if_neg (not_not.mpr rfl), if_pos hready, ControlLink.receive, hreceived]
    rfl
  rw [exec_controlBytes, controlBytes_of_hunting _ hpowered hreceiver, hentered]
  have hline : (if s.control.inbound.length + 1 < Config.inboundCapacity then s.control.ready else false) =
      decide (s.control.inbound.length + 1 < 8) := by
    rw [hready]
    split <;> simp_all
  unfold ControlLink.enter State.setControl
  rw [hline, ← hreceiver]

/-- Settles O9: on both links the record fails, is counted, and the hunt goes on after the start byte. -/
theorem badRecordIsCounted : Obligations.BadRecordIsCounted := by
  intro l0 l1 rest s len hbad
  have hfailed := receiveRecord_failed hbad
  constructor
  · intro hpowered hreceiver hready failed
    have hcounted : ControlLink.huntAll (startByte :: l0 :: l1 :: rest) s.control =
        ControlLink.huntAll (l0 :: l1 :: rest) failed.control := by
      rw [huntAll_cons, if_neg (not_not.mpr rfl), if_pos hready, ControlLink.receive, hfailed]
      rfl
    have harrived : exec (.controlRecordArrival (startByte :: l0 :: l1 :: rest)) s =
        .next (failed.setControl (ControlLink.huntAll (l0 :: l1 :: rest) failed.control)) := by
      rw [exec_controlBytes, controlBytes_of_hunting _ hpowered hreceiver, hcounted]
      rfl
    refine ⟨?_, fun hnone => ?_⟩
    · rw [harrived, exec_controlBytes, controlBytes_of_hunting (s := failed) _ hpowered hreceiver]
    · rw [harrived, huntAll_idle (c := failed.control) _ hnone hreceiver]
      rfl
  · intro hrunning hreceiver failed
    have hscan : lensFeed s.lens.receiver (startByte :: l0 :: l1 :: rest) =
        ⟨none :: (lensHuntAll (l0 :: l1 :: rest)).events, (lensHuntAll (l0 :: l1 :: rest)).receiver⟩ := by
      rw [lensFeed_eq, hreceiver, lensHuntAll_cons, if_neg (not_not.mpr rfl), lensReceive, hfailed]
    have hafter : lensFeed failed.lens.receiver (l0 :: l1 :: rest) = lensHuntAll (l0 :: l1 :: rest) := by
      rw [lensFeed_eq, show failed.lens.receiver = .hunting from hreceiver]
    have harrived : exec (.lensRecordArrival (startByte :: l0 :: l1 :: rest)) s =
        exec (.lensRecordArrival (l0 :: l1 :: rest)) failed := by
      rw [exec_lensBytes, exec_lensBytes, lensBytes_of_running s hrunning,
        lensBytes_of_running failed hrunning, hscan, hafter]
      rfl
    refine ⟨harrived, fun hnone => ?_⟩
    rw [harrived, exec_lensBytes, lensBytes_of_running failed hrunning, hafter, lensHuntAll_of_notMem hnone]
    change Host.Outcome.next (failed.setLens { failed.lens with receiver := .hunting }) = .next failed
    rw [← show failed.lens.receiver = .hunting from hreceiver]
    rfl

/-- Settles O10: the record is counted and passed over, and what comes after it is hunted over. -/
theorem notReadyRecordIsCounted : Obligations.NotReadyRecordIsCounted := by
  intro s hpowered hreceiver hready counted
  have harrived (l0 l1 : Byte) (rest : List Byte) :
      exec (.notReadyRecord (startByte :: l0 :: l1 :: rest)) s =
        .next (s.setControl (counted.control.pass ControlLink.huntAll (l0 :: l1 :: rest))) := by
    rw [exec_notReadyBytes, controlBytes_of_hunting _ hpowered hreceiver, huntAll_cons, if_neg (not_not.mpr rfl),
      if_neg (by rw [hready]; nofun)]
    rfl
  have hafter (bytes : List Byte) : exec (.notReadyRecord bytes) counted =
      .next (s.setControl (ControlLink.huntAll bytes counted.control)) := by
    rw [exec_notReadyBytes, controlBytes_of_hunting (s := counted) _ hpowered hreceiver]
    rfl
  have hidle (bytes : List Byte) (hnone : startByte ∉ bytes) :
      exec (.notReadyRecord bytes) counted = .next counted := by
    rw [hafter, huntAll_idle (c := counted.control) _ hnone hreceiver]
    rfl
  have hpassed (l0 l1 : Byte) (unchecked more : List Byte) (hlen : Within 2 1026 (leNat [l0, l1]))
      (hlength : unchecked.length = leNat [l0, l1] + 2) :
      exec (.notReadyRecord (startByte :: l0 :: l1 :: (unchecked ++ more))) s = exec (.notReadyRecord more) counted := by
    rw [harrived, hafter, ControlLink.pass, passRecord_unchecked hlen hlength]
  have hwhole (l0 l1 : Byte) (unchecked : List Byte) (hlen : Within 2 1026 (leNat [l0, l1]))
      (hlength : unchecked.length = leNat [l0, l1] + 2) :
      exec (.notReadyRecord (startByte :: l0 :: l1 :: unchecked)) s = .next counted := by
    rw [← hidle [] nofun, ← hpassed l0 l1 unchecked [] hlen hlength, List.append_nil]
  have hbad (l0 l1 : Byte) (rest : List Byte) (hlen : ¬ Within 2 1026 (leNat [l0, l1])) :
      exec (.notReadyRecord (startByte :: l0 :: l1 :: rest)) s = exec (.notReadyRecord (l0 :: l1 :: rest)) counted := by
    rw [harrived, hafter, ControlLink.pass, passRecord_badLength hlen]
  refine ⟨fun r hbody => ?_, fun l0 l1 unchecked more hlen hlength =>
    ⟨hwhole l0 l1 unchecked hlen hlength, hpassed l0 l1 unchecked more hlen hlength⟩,
    fun l0 l1 rest hlen => ⟨fun hnone => (hbad l0 l1 rest hlen).trans (hidle _ hnone), hbad l0 l1 rest hlen⟩⟩
  obtain ⟨l0, l1, unchecked, hbytes, hlen, hlength⟩ := recordBytes_eq hbody
  rw [hbytes]
  exact hwhole l0 l1 unchecked hlen hlength

end Sys2Proof.Machine

/-! PROOFS. What the part sends and reports: the arbiter (R189), the choice and the fields of notices (R159 to R161), the judging of
lens records (R24, R193), and the requests that report (R191, R192). -/

namespace Sys2Proof.Machine

/-! ### The arbiter -/

/-- Settles O13, by the cases of what is being sent. -/
theorem repliesAreSentInOrder : Obligations.RepliesAreSentInOrder := by
  refine ⟨fun s r rest hrunning hsending hreplies => ?_, fun s r hrunning hsending => ?_, fun s r hrunning hsending => ?_⟩
  · have hfree : s.lineFree = true := by rw [State.lineFree, hrunning, hsending]; rfl
    refine congrArg Host.Outcome.next (?_ : s.sendReply = _)
    rw [State.sendReply, hfree, hreplies]
    rfl
  · refine congrArg Host.Outcome.next (?_ : s.sendEnd = _)
    rw [State.sendEnd, hrunning, hsending]
    rfl
  · refine congrArg Host.Outcome.next (?_ : s.sendEnd = _)
    rw [State.sendEnd, hrunning, hsending]
    rfl

/-! ### The choice of a notice -/

/-- The first of the highest priority: what stands before it has a lower priority, and what stands after it none higher. -/
theorem firstHighest_split (s : State) {o : Offer} :
    ∀ {xs : List Offer}, s.firstHighest xs = some o →
      ∃ before after, xs = before ++ o :: after ∧ (∀ a ∈ before, s.priority a < s.priority o) ∧
        ∀ b ∈ after, s.priority b ≤ s.priority o
  | [], h => nomatch h
  | x :: xs, h => by
    unfold State.firstHighest at h
    split at h
    · rename_i best hbest
      obtain ⟨before, after, hsplit, hbefore, hafter⟩ := firstHighest_split s hbest
      split at h
      · rename_i hlower
        obtain rfl := Option.some.inj h
        refine ⟨x :: before, after, by rw [hsplit]; rfl, fun a ha => ?_, hafter⟩
        rcases List.mem_cons.mp ha with rfl | ha
        · exact hlower
        · exact hbefore a ha
      · rename_i hnot
        obtain rfl := Option.some.inj h
        refine ⟨[], xs, rfl, nofun, fun b hb => ?_⟩
        have hbest : s.priority best ≤ s.priority x := Nat.le_of_not_lt hnot
        rw [hsplit] at hb
        rcases List.mem_append.mp hb with hb | hb
        · exact (hbefore b hb).le.trans hbest
        · rcases List.mem_cons.mp hb with rfl | hb
          · exact hbest
          · exact (hafter b hb).trans hbest
    · rename_i hnone
      obtain rfl := Option.some.inj h
      refine ⟨[], xs, rfl, nofun, fun b hb => ?_⟩
      cases xs with
      | nil => cases hb
      | cons y ys =>
        unfold State.firstHighest at hnone
        split at hnone
        · split at hnone <;> cases hnone
        · cases hnone

theorem firstHighest_eq_none {s : State} {xs : List Offer} : s.firstHighest xs = none ↔ xs = [] := by
  cases xs with
  | nil => simp [State.firstHighest]
  | cons x xs =>
    unfold State.firstHighest
    split
    · split <;> simp
    · simp

/-- Every offer stands in the kind order (R158). -/
theorem mem_offers (o : Offer) : o ∈ offers := by
  cases o with
  | watch i => exact (by decide : ∀ i : Fin 8, Offer.watch i ∈ offers) i
  | _ => decide

/-- The offers stand in the order of their places. -/
theorem offers_ordered : offers.Pairwise fun a b => offers.idxOf a < offers.idxOf b := by decide

theorem eligible_iff {s : State} {o : Offer} :
    s.eligible o = true ↔ s.owes o = true ∧ (o = .restarted ∨ s.control.subscriptions.getLsbD o.kind.bit = true) := by
  rw [State.eligible, Bool.and_eq_true, Bool.or_eq_true, beq_iff_eq]
  rfl

/-- The notice offered has the highest priority of the eligible ones, and among equals the first place (R159). -/
theorem offered_highest {s : State} {o o' : Offer} (ho : s.offered = some o) (ho' : s.eligible o' = true) :
    s.priority o' < s.priority o ∨ (s.priority o' = s.priority o ∧ offers.idxOf o ≤ offers.idxOf o') := by
  obtain ⟨before, after, hsplit, hbefore, hafter⟩ := firstHighest_split s ho
  have hordered : (before ++ o :: after).Pairwise fun a b => offers.idxOf a < offers.idxOf b := by
    rw [← hsplit]
    exact offers_ordered.filter _
  have hmem : o' ∈ before ++ o :: after := by
    rw [← hsplit]
    exact List.mem_filter.mpr ⟨mem_offers o', ho'⟩
  rcases List.mem_append.mp hmem with hmem | hmem
  · exact .inl (hbefore o' hmem)
  · rcases List.mem_cons.mp hmem with rfl | hmem
    · exact .inr ⟨rfl, le_rfl⟩
    · rcases (hafter o' hmem).lt_or_eq with hlt | heq
      · exact .inl hlt
      · have hplace := (List.pairwise_cons.mp (List.pairwise_append.mp hordered).2.1).1 o' hmem
        exact .inr ⟨heq, hplace.le⟩

/-- Settles O15: the first of the highest priority of the eligible offers, in the kind order. -/
theorem offerHasHighestPriority : Obligations.OfferHasHighestPriority := by
  refine ⟨rfl, fun _ => rfl, fun s => ⟨rfl, fun _ => rfl, rfl, fun _ => rfl, fun _ => eligible_iff, ?_,
    fun o ho => ⟨offered_eligible ho, fun _ => offered_highest ho⟩⟩⟩
  rw [State.offered, firstHighest_eq_none, List.filter_eq_nil_iff]
  exact ⟨fun h o => Bool.not_eq_true _ ▸ h o (mem_offers o), fun h o _ => by rw [h o]; nofun⟩

/-! ### The sending of a notice -/

/-- The beginning of a notice's sending clears its own flag and no other (R160). -/
theorem clearOffer_owes (s : State) (o o' : Offer) :
    (s.clearOffer o).owes o' = if o' = o then false else s.owes o' := by
  cases o with
  | watch i =>
    cases o' with
    | watch j =>
      by_cases h : j = i
      · subst h
        simp [State.clearOffer, State.owes]
      · simp [State.clearOffer, State.owes, Eight.get_set_ne _ _ h, h]
    | _ => rfl
  | _ => cases o' <;> rfl

/-- The beginning of a notice's sending touches the notice state and the watches' notice-owed flags alone (R160). -/
theorem clearOffer_leaves (s : State) (o : Offer) :
    (s.clearOffer o).notices.framesCount = (if o = .summary then 0 else s.notices.framesCount) ∧
    (s.clearOffer o).notices.retained = s.notices.retained ∧
    (s.clearOffer o).notices.restartTag = s.notices.restartTag ∧
    (∀ i, { (s.clearOffer o).watches.get i with owed := (s.watches.get i).owed } = s.watches.get i) ∧
    { s.clearOffer o with notices := s.notices, watches := s.watches } = s := by
  cases o with
  | watch i =>
    refine ⟨rfl, rfl, rfl, fun j => ?_, rfl⟩
    change { (s.watches.set i { s.watches.get i with owed := false }).get j with owed := (s.watches.get j).owed } = _
    rw [Eight.get_set]
    split
    · rename_i h
      rw [h]
    · rfl
  | _ => exact ⟨rfl, rfl, rfl, fun _ => rfl, rfl⟩

/-- The set of the conditions in which a watch differs from the latest plan (R161). -/
theorem differing_latest (w : Watch) (latest : Option Plan) {n : Nat} (hn : n < 13) :
    ((latest.map w.differing).getD 0).getLsbD n =
      latest.any fun p => w.selection.getLsbD n && (conditionHolds p w.lo w.hi n != w.expected.getLsbD n) := by
  cases latest with
  | none => simp
  | some p => exact differing_getLsbD w p hn

/-- Settles O14: the offered notice, its own flag, and the fields of each kind. -/
theorem sentNoticeClearsItsFlag : Obligations.SentNoticeClearsItsFlag := by
  constructor
  · intro s o hrunning hsending hreplies ho
    have hidle : (s.lineFree && s.control.replies.isEmpty) = true := by
      rw [State.lineFree, hrunning, hsending, hreplies]
      rfl
    have hsent : s.sendNotice = (s.clearOffer o).startSending (.notice (s.notice o)) := by
      rw [State.sendNotice, hidle, ho]
    have hcontrol : (s.clearOffer o).control = s.control := congrArg LinkSide.control (clearOffer_linkSide s o)
    obtain ⟨hframes, hretained, htag, hwatches, hrest⟩ := clearOffer_leaves s o
    refine ⟨_, congrArg Host.Outcome.next hsent, ?_, ?_, fun o' hne => ?_, hframes, hretained, htag, hwatches, ?_⟩
    · change { (s.clearOffer o).control with sending := some (.notice (s.notice o)) } = _
      rw [hcontrol]
      rfl
    · exact (clearOffer_owes s o o).trans (if_pos rfl)
    · exact (clearOffer_owes s o o').trans (if_neg hne)
    · exact (congrArg (fun t : State => { t with control := s.control }) hrest :)
  · intro s latest
    have hlatest : latestPlanFields s.planner.latest = latest := by
      unfold latest
      cases s.planner.latest <;> rfl
    refine ⟨rfl, fun h => ?_, fun e h => ?_, fun i => ⟨((s.planner.latest.map (s.watches.get i).differing).getD 0),
      fun n hn => differing_latest _ _ hn, ?_⟩, ?_, ?_, ?_, rfl, fun r h => ?_⟩
    · rw [State.noticeFields, h]
      rfl
    · rw [State.noticeFields, h]
      rfl
    · rw [← hlatest]
      simp [State.noticeFields, watchNoticeFields, encodeDefinition, encodeSet, slotByte]
    · simp [State.noticeFields, encodeTracks, PerAxis.toList]
    · rw [← hlatest]
      rfl
    · rfl
    · rw [State.noticeFields, summaryNoticeFields, h, Option.getD_some, encodeReport]
      simp [PerAxis.toList]

/-! ### The judging of a lens record -/

/-- The sample that a lens-link record carries, when its body passes R24. -/
theorem lensSample_of_good {r : Record} {k : Source} (hkind : r.kind = 0x20) (h8 : 8 ≤ r.body.length)
    (hsource : fieldAt r.body 0 1 = 0 ∧ k = .mount ∨ fieldAt r.body 0 1 = 1 ∧ k = .motor)
    (hpresence : ¬ (fieldAt r.body 1 1 = 0 ∨ 8 ≤ fieldAt r.body 1 1)) (hlength : r.body.length = 8 + 2 * axesNamed r.body) :
    lensSample r = some (k, wireSample r.body) := by
  have hgood : (presenceGood (sampleFields r.body).presence && sampleLengthGood (sampleFields r.body)) = true :=
    Bool.and_eq_true_iff.mpr ⟨presenceGood_iff.mpr hpresence, (sampleLengthGood_iff h8).mpr hlength⟩
  have hlens : lensSource (sampleFields r.body).source = some k := by
    change lensSource (fieldAt r.body 0 1) = some k
    rcases hsource with ⟨hsource, rfl⟩ | ⟨hsource, rfl⟩ <;> rw [hsource] <;> rfl
  rw [lensSample, if_pos ⟨hkind, h8⟩]
  dsimp only
  rw [if_pos hgood, hlens, sampleOf_sampleFields hlength]
  rfl

/-- A lens-link record that fails a check of R24 carries no sample. -/
theorem lensSample_of_bad {r : Record}
    (h : r.kind ≠ 0x20 ∨ r.body.length < 8 ∨ 2 ≤ fieldAt r.body 0 1 ∨ fieldAt r.body 1 1 = 0 ∨ 8 ≤ fieldAt r.body 1 1 ∨
      r.body.length ≠ 8 + 2 * axesNamed r.body) : lensSample r = none := by
  unfold lensSample
  split
  · rename_i hform
    obtain ⟨hkind, h8⟩ := hform
    dsimp only
    split
    · rename_i hgood
      obtain ⟨hpresence, hlength⟩ := Bool.and_eq_true_iff.mp hgood
      have hin := presenceGood_iff.mp hpresence
      have hwhole := (sampleLengthGood_iff h8).mp hlength
      replace hin : ¬ (fieldAt r.body 1 1 = 0 ∨ 8 ≤ fieldAt r.body 1 1) := hin
      have hsource : 2 ≤ fieldAt r.body 0 1 := by
        rcases h with h | h | h | h | h | h
        · exact absurd hkind h
        · omega
        · exact h
        · exact absurd (.inl h) hin
        · exact absurd (.inr h) hin
        · exact absurd hwhole h
      have hnone : lensSource (sampleFields r.body).source = none := by
        change lensSource (fieldAt r.body 0 1) = none
        unfold lensSource
        split
        · omega
        · omega
        · rfl
      rw [hnone]
      rfl
    · rfl
  · rfl

/-- The bytes of one record on the lens link of a part that runs: what the record comes to is carried out (R193). -/
theorem exec_lensRecord {r : Record} {s : State} (hbody : r.body.length ≤ 1024) (hrunning : s.running = true)
    (hreceiver : s.lens.receiver = .hunting) :
    exec (.lensRecordArrival (recordBytes r)) s = .next (s.lensEvent (some r)) := by
  have hreceived := receiveRecord_recordBytes r [] hbody
  rw [List.append_nil] at hreceived
  have hscan : lensFeed s.lens.receiver (recordBytes r) = ⟨[some r], .hunting⟩ := by
    rw [lensFeed_eq, hreceiver]
    change lensHuntAll (startByte :: (recordBytes r).tail) = _
    rw [lensHuntAll_cons, if_neg (not_not.mpr rfl), lensReceive, hreceived]
    rfl
  have hkept : (s.lensEvent (some r)).lens.receiver = .hunting := by
    unfold State.lensEvent
    split <;> exact hreceiver
  rw [exec_lensBytes, lensBytes_of_running s hrunning, hscan]
  change Host.Outcome.next ((s.lensEvent (some r)).setLens { (s.lensEvent (some r)).lens with receiver := .hunting }) = _
  rw [← hkept]
  rfl

/-- Settles O16: a record that carries a sample goes to the intake, which judges its order; any other is counted. -/
theorem lensRecordIsJudged : Obligations.LensRecordIsJudged := by
  intro r s hbody hrunning hreceiver
  have hexec := exec_lensRecord hbody hrunning hreceiver
  have htime : fieldAt r.body 2 6 = (wireSample r.body).time := fieldAt_six r.body 2
  refine ⟨fun k hkind h8 hsource hlo hhi hlength => ?_, fun hbad => ?_⟩
  · have hsample := lensSample_of_good hkind h8 hsource (by omega) hlength
    have htaken : s.lensEvent (some r) = s.setIntake (s.intake.take k (wireSample r.body)) := by
      rw [State.lensEvent, Option.bind_some, hsample]
    rw [hexec, htaken, htime]
    refine ⟨fun hearlier => ?_, fun y hy hlater => ?_⟩
    · rw [take_of_inOrder (inOrder_iff.mpr hearlier)]
      rfl
    · have hout : inOrder (s.intake.histories.get k) (wireSample r.body) = false := by
        rw [inOrder_eq_false_iff, Option.mem_def.mp hy]
        exact decide_eq_true hlater
      rw [take_of_not_inOrder hout]
      rfl
  · rw [hexec, State.lensEvent, Option.bind_some, lensSample_of_bad hbad]
    rfl

/-! ### The requests that report -/

/-- A request that reports is answered with its fields and changes nothing. -/
theorem takeRequest_reports {kind : Byte} {q : Request} {fields : State → List Byte} {s : State}
    (ht : s.takes ⟨kind, q.tag, q.body⟩ = true) (hl : lengthAgrees kind q.body.length = true)
    (hfields : fields s.removeOldest = fields s) :
    takeRequest kind q (fun t => answer .ok (fields t) t) s = s.answered (replyTo kind q .ok (fields s)) :=
  takeRequest_of_refusal ht hl (by rw [hfields])

theorem leBytes_one (n : Nat) : leBytes 1 n = [BitVec.ofNat 8 n] := rfl

theorem orders_coded (a b c : Source) :
    encodeOrder [a] = [1, a.code, 0xFF, 0xFF] ∧ encodeOrder [a, b] = [2, a.code, b.code, 0xFF] ∧
      encodeOrder [a, b, c] = [3, a.code, b.code, c.code] := ⟨rfl, rfl, rfl⟩

/-- The tripped set is the byte whose bits are the tripped flags (R150). -/
theorem eq_trippedSet {watches : Eight Watch} {tripped : Byte} (h : ∀ i : Fin 8, tripped.getLsbD i = (watches.get i).tripped) :
    tripped = trippedSet watches :=
  BitVec.eq_of_getLsbD_eq fun i hi => (h ⟨i, hi⟩).trans (trippedSet_getLsbD watches ⟨i, hi⟩).symm

/-- Settles O17: every reporting request by its fields, and every field by its coding. -/
theorem reportsChangeNothing : Obligations.ReportsChangeNothing := by
  refine ⟨fun q s hq => ?_, fun q n s hq ht => ?_, ?_, ?_, fun s tripped htripped => ?_, fun x => ?_, fun x => ?_,
    fun s i => ⟨fun h => ?_, fun j h => ?_, fun stage p h => ?_⟩⟩
  · have hlength (kind : Byte) (h : lengthAgrees kind 0 = true) : lengthAgrees kind q.body.length = true := by
      rw [hq]
      exact h
    exact ⟨fun ht => congrArg Host.Outcome.next (takeRequest_reports ht (hlength _ rfl) rfl),
      fun ht => congrArg Host.Outcome.next (takeRequest_reports ht (hlength _ rfl) rfl),
      fun ht => congrArg Host.Outcome.next (takeRequest_reports (fields := fun t => streamFields t.pixel) ht (hlength _ rfl) rfl),
      fun ht => congrArg Host.Outcome.next
        (takeRequest_reports (fields := fun t => stageFields t.settings) ht (hlength _ rfl) rfl),
      fun ht => congrArg Host.Outcome.next
        (takeRequest_reports (fields := fun t => t.watches.toList.flatMap encodeWatch) ht (hlength _ rfl) rfl)⟩
  · have hfield : fieldAt q.body 0 1 = n.toNat := fieldAt_byte (by rw [hq]; rfl)
    have hlength : lengthAgrees 0x09 q.body.length = true := by
      rw [hq]
      rfl
    refine ⟨fun i hi => congrArg Host.Outcome.next (takeRequest_of_refusal ht hlength ?_),
      fun hi => congrArg Host.Outcome.next (takeRequest_of_refusal ht hlength ?_)⟩
    · rw [profileQueryOwner, index8_eq_some.mpr (hfield.trans hi)]
      rfl
    · rw [profileQueryOwner, index8_eq_none.mpr (hfield ▸ hi)]
      rfl
  · exact ⟨fun n => ⟨rfl, rfl, fun k => rfl⟩, rfl, rfl, fun k n => ⟨rfl, rfl⟩, fun a => rfl, rfl, fun a => rfl, rfl, fun i => rfl, rfl,
      rfl, rfl, rfl, fun p i => rfl, rfl, rfl, rfl, rfl, rfl, rfl, rfl, rfl, orders_coded, fun x => rfl, fun m => rfl,
      fun n => ⟨rfl, rfl, rfl, rfl⟩, fun x => ⟨rfl, rfl, rfl⟩, fun a => rfl⟩
  · refine ⟨fun x => rfl, rfl, fun b => rfl, fun r => rfl, fun w => ?_, fun b k clear h => encodeSection_eq h⟩
    simp [encodeWatch, encodeDefinition, encodeSet]
  · rw [eq_trippedSet htripped]
    simp [statusFields, encodeTracks, PerAxis.toList, PerSource.toList]
  · unfold streamFields
    cases x.config <;> cases x.frame <;> simp [encodeFlag, encodeConfig]
  · simp [stageFields, Params.toList, Changed.toList]
  · rw [queryFields, h]
    rfl
  · rw [queryFields, h]
    rfl
  · rw [queryFields, h]
    simp [sections, encodeLabel, Settings.holds, leBytes_one, beq_eq_decide]

end Sys2Proof.Machine

/-! PROOFS. The arrival of a frame header (R108, R116, R165): the step of a ramp at its announcement (R142, R143, R148), the
frame that it starts, and the rows that no frame accepts (R115, R117). -/

namespace Sys2Proof.Machine

/-! ### One ramp at an announced header -/

section OneRamp

variable {r : Ramp}

theorem step_of_idle (h : r.running = false) : r.step = (r, false) := by rw [Ramp.step, h]; rfl

/-- Before its last step a run goes one step on (R142). -/
theorem step_of_before_last (h : r.running = true) (hlast : r.done + 1 < r.total) :
    r.step = ({ r with done := r.done + 1, value := interpolate r.start r.target (r.done + 1) r.total }, false) := by
  rw [Ramp.step, if_pos h]
  simp [hlast, h]

/-- The last step of a run ends exactly at its target (R142). -/
theorem step_of_last (h : r.running = true) (hlast : r.done + 1 = r.total) :
    r.step = ({ r with done := r.total, value := r.target, running := false }, true) := by
  rw [Ramp.step, if_pos h]
  simp [hlast, interpolate_den r.start r.target (show 0 < r.total by omega)]

theorem startBuffered_of_running (h : r.running = true) : r.startBuffered = (r, false) := by
  unfold Ramp.startBuffered
  rw [h]

theorem startBuffered_of_empty (h : r.buffered = none) : r.startBuffered = (r, false) := by
  unfold Ramp.startBuffered
  rw [h]
  cases r.running <;> rfl

/-- A ramp idle after the step starts its buffered command, which completes at once when its frames total is 0 (R143, R148). -/
theorem startBuffered_of_idle {b : Buffered} (h : r.running = false) (hb : r.buffered = some b) :
    r.startBuffered =
      (⟨if b.total = 0 then b.target else if b.form = .continue then r.value else 0, b.target,
        if b.form = .continue then r.value else 0, b.total, 0, decide (0 < b.total), none⟩, decide (b.total = 0)) := by
  unfold Ramp.startBuffered
  rw [h, hb]
  cases hform : b.form <;> simp [hform, beq_eq_decide]

/-- A ramp at an announced header steps and then starts its buffered command (R142, R143). -/
theorem atHeader_eq {a b : Ramp} {stepped started : Bool} (hstep : r.step = (a, stepped))
    (hstart : a.startBuffered = (b, started)) : r.atHeader = (b, stepped || started) := by
  rw [Ramp.atHeader, hstep]
  dsimp only
  rw [hstart]

end OneRamp

/-- Settles O35: the step, then the start of the buffered command where the step leaves the ramp idle. -/
theorem rampStepsAtHeader : Obligations.RampStepsAtHeader := by
  intro r hr
  obtain ⟨-, -, -, -, -, hdone, -, -⟩ := hr
  dsimp only
  refine ⟨fun hrun hlast => ⟨?_, ?_⟩, fun hrun hlast hb => ?_, fun b hrun hlast hb => ?_, fun hrun hb => ?_, fun b hrun hb => ?_⟩
  · exact atHeader_eq (step_of_before_last hrun hlast) (startBuffered_of_running hrun)
  · exact interpolate_within ⟨Nat.min_le_left _ _, Nat.le_max_left _ _⟩ ⟨Nat.min_le_right _ _, Nat.le_max_right _ _⟩
      (by omega) hlast.le
  · exact atHeader_eq (step_of_last hrun hlast) (startBuffered_of_empty hb)
  · exact (atHeader_eq (step_of_last hrun hlast) (startBuffered_of_idle (b := b) rfl hb)).trans rfl
  · exact atHeader_eq (step_of_idle hrun) (startBuffered_of_empty hb)
  · exact (atHeader_eq (step_of_idle hrun) (startBuffered_of_idle hrun hb)).trans (by rw [Bool.false_or])

/-! ### Headers -/

section Headers

variable {s t : State} {c : StreamConfig} {f : Frame} {h : FrameHeader}

theorem exec_frameHeader (hrun : s.running = true) : exec (.frameHeader h) s = .next (s.headerArrives h) :=
  congrArg Host.Outcome.next (if_pos hrun)

theorem exec_frameEnd (hrun : s.running = true) : exec .frameEnd s = .next s.endArrives :=
  congrArg Host.Outcome.next (if_pos hrun)

theorem exec_inputRow {row : Row} (hrun : s.running = true) : exec (.inputRow row) s = .next (s.rowArrives row) :=
  congrArg Host.Outcome.next (if_pos hrun)

theorem headerMatches_iff : headerMatches (some c) h = true ↔ h.width = c.width ∧ h.height = c.height := by
  simp [headerMatches]

/-- A run that completes at an announcement sets the RAMP flag (R148). -/
theorem announce_ramp (s : State) : s.announce.notices.ramp = (s.notices.ramp || s.ramps.completes) := by
  unfold State.announce
  split <;> rfl

/-- An announced header starts a frame once the frame in progress has closed (R108, R113). -/
theorem headerArrives_of_announces (h' : s.announces h = true) :
    s.headerArrives h =
      (s.closeIfOpen.setPixel { s.closeIfOpen.pixel with skip := false, orphan := false }).startFrame h := by
  obtain ⟨hstream, hmatches⟩ := Bool.and_eq_true_iff.mp h'
  unfold State.headerArrives State.judgeHeader
  dsimp only
  rw [if_pos (beq_iff_eq.mp hstream), if_pos hmatches]

theorem closeIfOpen_of_no_frame (hstream : s.pixel.stream = .waiting ∨ s.pixel.stream = .stopped) : s.closeIfOpen = s := by
  unfold State.closeIfOpen
  rcases hstream with hstream | hstream <;> rw [hstream]

theorem closeIfOpen_of_frame (hstream : s.pixel.stream = .inFrame ∨ s.pixel.stream = .stopping) :
    s.closeIfOpen = s.closeFrame := by
  unfold State.closeIfOpen
  rcases hstream with hstream | hstream <;> rw [hstream]

/-- A header in WAITING is judged at once (R108). -/
theorem headerArrives_of_waiting (hstream : s.pixel.stream = .waiting) : s.headerArrives h = s.judgeHeader h := by
  rw [State.headerArrives, closeIfOpen_of_no_frame (.inl hstream)]
  exact if_pos hstream

/-- A matching header in WAITING starts a frame; a pending FRAME apply takes effect, and the ramp unit steps (R108, R131). -/
theorem judgeHeader_of_matches (hc : s.pixel.config = some c) (hwidth : h.width = c.width) (hheight : h.height = c.height) :
    s.judgeHeader h =
      let u := if s.settings.apply = .frame then s.applyNow else s
      { u with
        pixel := { s.pixel with
          stream := .inFrame, skip := false, orphan := false, lastFrame := some h.frameNumber.toNat
          frame := some ⟨h, false, FrameReport.initial h.frameNumber.toNat⟩ }
        ramps := ⟨s.ramps.breathing.atHeader.1, s.ramps.shading.atHeader.1,
          fadeAtHeader u.settings.active.lossAction u.settings.active.fadeFrames (lossSeen s.planner.latest) s.ramps.fade⟩
        notices := { s.notices with ramp := s.notices.ramp || s.ramps.completes } } := by
  unfold State.judgeHeader
  dsimp only
  rw [hc, if_pos (headerMatches_iff.mpr ⟨hwidth, hheight⟩)]
  unfold State.startFrame State.announce
  by_cases happly : s.settings.apply = .frame
  · rw [if_pos happly]
    exact if_pos happly ▸ rfl
  · rw [if_neg happly]
    exact if_neg happly ▸ rfl

/-- A mismatched header in WAITING raises FORMAT and sets the skip flag (R116, R165). -/
theorem judgeHeader_of_mismatch (hc : s.pixel.config = some c) (hbad : h.width ≠ c.width ∨ h.height ≠ c.height) :
    s.judgeHeader h =
      ({ s with pixel := { s.pixel with skip := true, orphan := false } } : State).faulted .format
        (some h.frameNumber.toNat) none := by
  have hno : ¬ headerMatches s.pixel.config h = true := by
    rw [hc, headerMatches_iff]
    rintro ⟨hwidth, hheight⟩
    exact hbad.elim (· hwidth) (· hheight)
  unfold State.judgeHeader
  exact (if_neg hno).trans (reportFault_eq _ _ _ _)

/-- A header that closes a frame is then treated as it is after the close (R113). -/
theorem headerArrives_closeFrame (hconsistent : s.pixel.Consistent) (hf : s.pixel.frame = some f) :
    s.closeFrame.headerArrives h = s.headerArrives h := by
  obtain ⟨c, hc⟩ := hconsistent.config_of_frame hf
  have hclosed : s.closeFrame.pixel.stream = .waiting ∨ s.closeFrame.pixel.stream = .stopped := by
    rw [closeFrame_pixel hc hf, closed_eq]
    dsimp only
    split
    · exact .inr rfl
    · exact .inl rfl
  have hopen : s.closeIfOpen = s.closeFrame := closeIfOpen_of_frame (hconsistent.frame_iff.mp (by rw [hf]; rfl))
  unfold State.headerArrives
  rw [hopen, closeIfOpen_of_no_frame hclosed]

end Headers

/-- Settles O36: the announcement adds the completed runs to the RAMP flag, and the close before it leaves the ramps alone. -/
theorem rampCompletesAtHeader : Obligations.RampCompletesAtHeader := by
  intro h s
  refine ⟨fun hrun hannounces hcompletes => ?_, fun hnot => ?_⟩
  · have hexec : exec (.rampComplete h) s = .next (s.headerArrives h) :=
      congrArg Host.Outcome.next (if_pos (by rw [hrun, hannounces, hcompletes]; rfl))
    refine ⟨hexec.trans (exec_frameHeader hrun).symm, _, hexec, ?_⟩
    rw [headerArrives_of_announces hannounces, State.startFrame, announce_ramp]
    change (_ || s.closeIfOpen.ramps.completes) = true
    rw [closeIfOpen_ramps, hcompletes, Bool.or_true]
  · refine congrArg Host.Outcome.next (if_neg ?_)
    rintro hall
    simp only [Bool.and_eq_true] at hall
    obtain ⟨⟨hrun, hannounces⟩, hcompletes⟩ := hall
    rcases hnot with hnot | hnot | hnot
    · exact absurd hrun (by simp [hnot])
    · exact absurd hannounces (by simp [hnot])
    · exact absurd hcompletes (by simp [hnot])

/-- Settles O44: a header in WAITING is judged, and in a frame it is judged after the close. -/
theorem headerStartsFrame : Obligations.HeaderStartsFrame := by
  intro h s hrun
  refine ⟨?_, fun c hstream hc hbad => ?_, fun hstream => ?_, fun hstream hpixel => ?_⟩
  · intro c hstream hc hwidth hheight
    rw [exec_frameHeader hrun, headerArrives_of_waiting hstream, judgeHeader_of_matches hc hwidth hheight]
    rfl
  · rw [exec_frameHeader hrun, headerArrives_of_waiting hstream, judgeHeader_of_mismatch hc hbad]
  · rw [exec_frameHeader hrun, State.headerArrives, closeIfOpen_of_no_frame (.inr hstream)]
    exact congrArg Host.Outcome.next (if_neg (by rw [hstream]; exact Stream.noConfusion))
  · have hconsistent := (pixelInv_iff.mp hpixel).pixel
    obtain ⟨f, hf⟩ := Option.isSome_iff_exists.mp (hconsistent.frame_iff.mpr hstream)
    refine ⟨s.closeFrame, ?_, ?_⟩
    · rw [exec_frameEnd hrun, endArrives_eq_closeFrame hconsistent hf]
    · have hstill : s.closeFrame.running = true := by
        rw [running_eq_of_linkSide_eq (closeFrame_linkSide s), hrun]
      rw [exec_frameHeader hrun, exec_frameHeader hstill, headerArrives_closeFrame hconsistent hf]

/-! ### Rows that no frame accepts -/

/-- Settles O46: a row meets no frame in progress, or one whose H rows have arrived, or a part that does not run. -/
theorem unacceptedRowsAreDiscarded : Obligations.UnacceptedRowsAreDiscarded := by
  refine ⟨fun row s hrun => ?_, fun h row s hrun => ?_⟩
  · rw [exec_inputRow hrun]
    refine ⟨fun hstream => ?_, fun hstream hknown => ?_, fun hstream hskip horphan => ?_, fun c f hstream hc hf hall => ?_⟩
    · rw [State.rowArrives, hstream]
    · rw [State.rowArrives, hstream]
      exact congrArg Host.Outcome.next (if_pos (Bool.or_eq_true_iff.mpr hknown))
    · rw [State.rowArrives, hstream]
      refine congrArg Host.Outcome.next ((if_neg ?_).trans (reportFault_eq _ _ _ _))
      rw [hskip, horphan]
      exact Bool.false_ne_true
    · have hextra : s.rowArrives row = s.extraRow c f := by
        have hnot : ¬ f.report.rowsReceived < c.height := by omega
        rcases hstream with hstream | hstream <;> simp only [State.rowArrives, hstream, hc, hf, if_neg hnot]
      rw [hextra, State.extraRow]
      refine ⟨fun hlong => ?_, fun hlong => ?_⟩
      · rw [if_pos hlong]
      · rw [if_neg (by rw [hlong]; exact Bool.false_ne_true), reportFault_eq, PixelPath.mapReport, hf]
        rfl
  · have hnot : ¬ s.running = true := by rw [hrun]; exact Bool.false_ne_true
    exact ⟨congrArg Host.Outcome.next (if_neg hnot), congrArg Host.Outcome.next (if_neg hnot),
      congrArg Host.Outcome.next (if_neg hnot)⟩

end Sys2Proof.Machine

/-! PROOFS. Restarts, device-level resets and power (11.4): the STREAM restart of a frame in progress (R175), the start and the
end of a device-level reset (R176 to R179), and the state after the power-on reset. -/

namespace Sys2Proof.Machine

section Restarts

variable {q : Request} {n : Byte} {s : State}

theorem restartLevel_of_body (hq : q.body = [n]) : restartLevel q = some n.toNat := by rw [restartLevel, hq]

theorem restartFits_of_body {level : Nat} (hq : q.body = [n]) (h : n.toNat = level ∨ 2 < n.toNat) :
    restartFits level q = true := by
  rw [restartFits, restartLevel_of_body hq]
  simpa using h

/-- The length of a RESTART request (12.3). -/
theorem restart_length (hq : q.body = [n]) : lengthAgrees 0x04 q.body.length = true := by rw [hq]; rfl

/-- A RESTART of a level not coded is refused, whichever row takes it (R175). -/
theorem takeRequest_restart_of_no_level (hq : q.body = [n]) (ht : s.takes ⟨0x04, q.tag, q.body⟩ = true) (h : 2 < n.toNat) :
    takeRequest 0x04 q (restartOwner q) s = s.answered (replyTo 0x04 q .badValue []) := by
  refine takeRequest_of_refusal ht (restart_length hq) (if_neg ?_)
  rw [restartLevel_of_body hq, Option.some_inj]
  omega

theorem takeRestart_of_no_level {level : Nat} (hlevel : level ≤ 2) (cause : ResetCause) (hq : q.body = [n])
    (ht : s.takes ⟨0x04, q.tag, q.body⟩ = true) (h : 2 < n.toNat) :
    takeRestart level cause q s = s.answered (replyTo 0x04 q .badValue []) := by
  have hother : restartLevel q ≠ some level := by
    rw [restartLevel_of_body hq, Ne, Option.some_inj]
    omega
  rw [takeRestart, restartFits_of_body hq (.inr h), if_neg hother]
  exact takeRequest_restart_of_no_level hq ht h

/-- A RESTART of a device level begins the reset and holds the tag (R176, R179). -/
theorem takeRestart_of_level (cause : ResetCause) (hq : q.body = [n]) (ht : s.takes ⟨0x04, q.tag, q.body⟩ = true) :
    takeRestart n.toNat cause q s = s.beginReset ⟨cause, q.tag⟩ := by
  rw [takeRestart, restartFits_of_body hq (.inl rfl), if_pos (restartLevel_of_body hq), takeDeviceRestart, if_pos ht,
    beginReset_eq, beginReset_eq, removeOldest_eq]
  rfl

end Restarts

/-- Settles O56: the abort, the hand-over of the report and the stop, by whether a frame is in progress. -/
theorem streamRestartAbortsTheFrame : Obligations.StreamRestartAbortsTheFrame := by
  intro q n s hq ht
  constructor
  · intro hn
    have hlevel : restartLevel q = some 0 := by rw [restartLevel_of_body hq, hn]; rfl
    have hexec : exec (.restartStream q) s = .next (takeRequest 0x04 q (restartOwner q) s) :=
      congrArg Host.Outcome.next (if_pos (restartFits_of_body hq (.inl (by rw [hn]; rfl))))
    rw [hexec]
    refine congrArg Host.Outcome.next (takeRequest_of_answer ht (restart_length hq) ((if_pos hlevel).trans ?_))
    unfold streamRestartFields State.streamRestart State.handOverReport
    rw [abortOutput_eq, removeOldest_eq]
    cases hf : s.pixel.frame with
    | none => rw [removeOldest_eq]; rfl
    | some f => rw [removeOldest_eq]; simp only [Option.map_some, handOver_eq]; rfl
  · intro hn c hc
    rcases hc with _ | ⟨_, _ | ⟨_, _ | ⟨_, ⟨⟩⟩⟩⟩
    · exact congrArg Host.Outcome.next
        ((if_pos (restartFits_of_body hq (.inr hn))).trans (takeRequest_restart_of_no_level hq ht hn))
    · exact congrArg Host.Outcome.next (takeRestart_of_no_level (by decide) _ hq ht hn)
    · exact congrArg Host.Outcome.next (takeRestart_of_no_level (by decide) _ hq ht hn)

/-- Settles O57: each cause comes to the one start of a device-level reset. -/
theorem deviceResetBegins : Obligations.DeviceResetBegins := by
  refine ⟨fun q s hq ht => ?_, fun q s hq ht => ?_, fun s hline hpower => ?_, fun s hline hpower => ?_⟩
  · exact congrArg Host.Outcome.next ((takeRestart_of_level .warmRequest hq ht).trans (beginReset_eq _ _))
  · exact congrArg Host.Outcome.next ((takeRestart_of_level .coldRequest hq ht).trans (beginReset_eq _ _))
  · refine congrArg Host.Outcome.next ?_
    rw [if_neg (by simp [hline]), if_pos hpower, beginReset_eq]
    rfl
  · refine congrArg Host.Outcome.next ?_
    rw [if_neg (by simp [hline]), if_neg (by simp [hpower])]
    rfl

/-! ### The end of a reset and power -/

section Resets

variable {s : State}

theorem exec_resetEnd {run : ResetRun} (hpower : s.powered = true) (hline : s.resetLine = false)
    (hrun : s.resetRun = some run) : exec .resetEnd s = .next (s.finishReset run) := by
  refine congrArg Host.Outcome.next ?_
  rw [hpower, hline, hrun]
  rfl

theorem exec_resetEnd_of_line (hline : s.resetLine = true) : exec .resetEnd s = .next s := by
  refine congrArg Host.Outcome.next ?_
  rw [hline]
  cases s.powered <;> cases s.resetRun <;> rfl

/-- The state in which a device-level reset leaves the blocks that WARM and COLD return to the same values (R176 to R179). -/
def State.afterReset (s : State) (run : ResetRun) : State :=
  { s with
    resetRun := none, resetCause := run.cause
    intake := Intake.initial
    tracks := ⟨Track.initial, Track.initial, Track.initial⟩
    settings := Settings.initial
    planner := Planner.initial
    ramps := RampUnit.initial
    faults := none
    notices := Notices.afterReset run.tag }

theorem finishReset_of_warm {run : ResetRun} (h : run.cause = .warmRequest) :
    s.finishReset run =
      { s.afterReset run with
        slots := warmSlots s.slots
        watches := s.watches.map Watch.warm
        pixel := { PixelPath.initial with config := s.pixel.config, lastFrame := s.pixel.lastFrame } } := by
  rw [State.finishReset, if_pos h]
  simp only [State.warmValues, State.resetCommon, State.setNotices, State.setResetCause, State.setResetRun,
    State.setSlots, State.setWatches, State.setPixel, State.setIntake, State.setTracks, State.setSettings,
    State.setPlanner, State.setRamps, State.setFaults, State.afterReset]

theorem coldValues_eq (s : State) :
    s.coldValues =
      { s with
        intake := Intake.initial
        tracks := ⟨Track.initial, Track.initial, Track.initial⟩
        settings := Settings.initial
        planner := Planner.initial
        ramps := RampUnit.initial
        faults := none
        slots := Eight.all .empty
        watches := Eight.all Watch.initial
        pixel := PixelPath.initial
        control := { s.control with subscriptions := 0 } } := by
  simp only [State.coldValues, State.resetCommon, State.setSlots, State.setWatches, State.setPixel, State.setIntake,
    State.setTracks, State.setSettings, State.setPlanner, State.setRamps, State.setFaults, State.setControl]

theorem finishReset_of_not_warm {run : ResetRun} (h : run.cause ≠ .warmRequest) :
    s.finishReset run =
      { s.afterReset run with
        slots := Eight.all .empty
        watches := Eight.all Watch.initial
        pixel := PixelPath.initial
        control := { s.control with subscriptions := 0 } } := by
  rw [State.finishReset, if_neg h, coldValues_eq]
  simp only [State.setNotices, State.setResetCause, State.setResetRun, State.afterReset]

/-- A part without power holds what power-on gives, and only what waits, the lines and what was put out stands (R177). -/
theorem blank_eq (s : State) :
    s.blank =
      { State.reset with
        pending := s.pending, powered := s.powered, resetLine := s.resetLine
        notices := { State.reset.notices with restarted := false }
        outputs := s.outputs } := by
  rw [State.blank, coldValues_eq]
  simp only [State.setControl, State.setLens, State.setNotices, State.setResetCause, State.setResetRun, State.reset]

end Resets

/-- Settles O58: the values of each level, and a release ends a reset of the line at the COLD values. -/
theorem deviceResetEnds : Obligations.DeviceResetEnds := by
  refine ⟨fun s run hpower hline hrun => ?_, fun s hpower hline hrun => ⟨?_, exec_resetEnd_of_line hline⟩⟩
  · rw [exec_resetEnd hpower hline hrun]
    refine congrArg Host.Outcome.next ?_
    by_cases hwarm : run.cause = .warmRequest
    · have hslots : warmSlot s.slots = fun x =>
          match x with
          | .live .opened _ => .empty
          | .live _ p => .live .ready p
          | .partner i => if (s.slots.get i).isOpened then .empty else .partner i
          | .empty => .empty := by
        funext x
        cases x with
        | live stage p => cases stage <;> rfl
        | _ => rfl
      rw [if_pos hwarm, finishReset_of_warm hwarm, warmSlots, hslots]
      rfl
    · rw [if_neg hwarm, finishReset_of_not_warm hwarm]
      rfl
  · have hrelease : exec .resetLineRelease s = .next ((s.setResetLine false).finishReset ⟨.resetLine, 0⟩) := by
      refine congrArg Host.Outcome.next ((if_pos hline).trans (if_pos ?_))
      rw [hpower, Bool.true_and]
      exact Option.isSome_iff_ne_none.mpr hrun
    rw [hrelease, finishReset_of_not_warm (by decide)]
    rfl

/-- Settles O59: the part without power is blank, and the end of the power-on reset sets the RESTARTED flag. -/
theorem powerIsLostAndApplied : Obligations.PowerIsLostAndApplied := by
  have hon (s : State) (h : s.powered = false) : exec .powerOn s =
      .next ((s.blank.setPowered true).setResetRun (some ⟨if s.resetLine then .resetLine else .powerOn, 0⟩)) :=
    congrArg Host.Outcome.next (if_neg (by simp [h]))
  refine ⟨fun s hpower => ?_, fun s hpower => ?_, fun s t hpower hline ht => ?_⟩
  · refine congrArg Host.Outcome.next ((if_pos hpower).trans ?_)
    rw [cutSending_eq, blank_eq]
    rfl
  · rw [hon s hpower, blank_eq]
    rfl
  · rw [hon s hpower, blank_eq, hline] at ht
    injection ht with ht
    have hpowered : t.powered = true := ht ▸ rfl
    have hreleased : t.resetLine = false := ht ▸ rfl
    have hrun : t.resetRun = some ⟨.powerOn, 0⟩ := ht ▸ rfl
    rw [exec_resetEnd hpowered hreleased hrun, finishReset_of_not_warm (by decide), ← ht]
    rfl

/-- Settles O60: with no profile, frame, plan, fault or byte held, each invariant is about a closed value. -/
theorem resetMeetsEveryInvariant : Obligations.ResetMeetsEveryInvariant := by
  have hcontent : State.reset.ContentInv := fun i => by fin_cases i <;> trivial
  refine ⟨?_, ?_, ?_, ?_, hcontent, ?_, ?_, ?_, ?_, ?_, ?_, ?_, ?_, rfl, rfl, rfl, rfl, rfl⟩
  all_goals decide

end Sys2Proof.Machine

/-! PROOFS. The steps of a band plan (R58): the band time (R55), what a plan adds to the frame report (R173), the magnification
and the scale of a finished profile (R74, R80, R82), and the plan that is made with and without a capture (R60, R67). -/

namespace Sys2Proof.Machine

/-! ### Rounded divisions -/

/-- A rounded division of a natural number (00_scope 5.2). -/
theorem roundDiv_natCast (n den : Nat) : roundDiv (n : Int) den = ((2 * n + den) / (2 * den) : Nat) := by
  rw [roundDiv]
  push_cast
  rfl

theorem rawScale_eq (mRef m : Nat) : rawScale mRef m = (2 * (mRef * 65536) + m) / (2 * m) := by
  rw [rawScale, show (mRef : Int) * 65536 = (mRef * 65536 : Nat) by push_cast; rfl, roundDiv_natCast, Int.toNat_natCast]

/-- Under CAPTURED an owed capture is the reference magnification (R67, R78). -/
theorem reference_of_captured {p : Profile} {mode : RefMode} {owed : Bool} (zoom : GridPos) (hmode : mode = .captured)
    (howed : owed = true) (m refMag : Nat) : p.reference zoom mode (if owed then m else refMag) = m := by
  rw [hmode, if_pos howed]
  rfl

/-- A band at the reference magnification is at unity scale (R67). -/
theorem rawScale_self {m : Nat} (h : 0 < m) : rawScale m m = 65536 := by
  rw [rawScale, mul_comm, roundDiv_mul_self _ h]
  rfl

theorem clampScale_eq {sMax : Nat} (h : 65536 ≤ sMax) (sRaw : Nat) : clampScale sMax sRaw = max 65536 (min sMax sRaw) := by
  rw [clampScale, show Config.unityScale = 65536 from rfl]
  split
  · omega
  · split <;> omega

/-- A scale from unity up is drawn by a strength in natural numbers (R82). -/
theorem effectiveScale_eq {scale : Nat} (h : 65536 ≤ scale) (kb : Nat) :
    effectiveScale scale kb = 65536 + (2 * ((scale - 65536) * kb) + 256) / 512 := by
  have hcast : ((scale : Int) - (65536 : Nat)) * kb = ((scale - 65536) * kb : Nat) := by
    rw [Nat.cast_mul, Nat.cast_sub h]
  rw [effectiveScale, drawToward, hcast, roundDiv_natCast]
  exact Int.toNat_natCast _

/-! ### The magnification of a finished profile (R73, R74) -/

section Magnification

variable {p : Profile} (hshape : ProfileOk p) (hdone : ProfileDone p)

include hshape hdone

theorem magnificationAt_within {i j : Nat} (hi : i < p.geometry.nf) (hj : j < p.geometry.nz) :
    Within 16384 65535 (p.magnificationAt i j) := by
  obtain ⟨-, -, -, -, -, -, hlength, -, -, -, -, hcodes, -⟩ := hshape
  obtain ⟨hmarks, -⟩ := hdone
  have hindex : j * p.geometry.nf + i < p.body.magnification.length := by
    rw [hlength]
    simpa using elementIndex_lt hi hj (k := 0) (ni := 1) Nat.one_pos
  have hmem := List.getElem_mem hindex
  obtain ⟨n, hn⟩ := Option.isSome_iff_exists.mp
    (isSome_of_marksClear hmarks (k := .magnification) (List.mem_map_of_mem hmem))
  rw [Profile.magnificationAt, codesOf, List.getD_eq_getElem _ _ (by rw [List.length_map]; exact hindex), List.getElem_map,
    hn]
  exact hcodes _ hmem n hn

theorem column_within {zoom : GridPos} (hzoom : zoom.OnAxis p.geometry.nz) {i : Nat} (hi : i < p.geometry.nf) :
    Within 16384 65535 (p.column zoom i) := by
  obtain ⟨-, -, hnz, -⟩ := of_decide_eq_true hshape.1
  obtain ⟨hindex, hu⟩ := hzoom
  unfold Profile.column
  split
  · exact magnificationAt_within hshape hdone hi hnz
  · have hj := hindex (by omega)
    exact interpolate_within (magnificationAt_within hshape hdone hi (by omega)) (magnificationAt_within hshape hdone hi hj)
      (by decide) hu

/-- The magnification of a band lies within the codes of the table (R1, R74). -/
theorem magnification_within (values : PerAxis Nat) :
    Within 16384 65535 (p.magnification (gridPositions p values)) := by
  have ⟨hadmissible, _, _, hnf, hnz, _⟩ := hshape
  have ⟨_, hfocusNodes, hzoomNodes, _⟩ := hdone
  have onAxis {nodes : List (Option Nat)} {n : Nat} (h : (codesOf nodes).Pairwise (· < ·)) (hn : nodes.length = n)
      (v : Nat) : (gridPosition (codesOf nodes) v).OnAxis n := by
    simpa [codesOf, hn] using gridPosition_onAxis h v
  obtain ⟨hindex, hu⟩ := onAxis hfocusNodes hnf values.focus
  have hi := hindex (of_decide_eq_true hadmissible).1
  have column {i : Nat} : i < p.geometry.nf → Within 16384 65535 (p.column (gridPositions p values).zoom i) :=
    column_within hshape hdone (onAxis hzoomNodes hnz values.zoom)
  exact interpolate_within (column (Nat.lt_of_succ_lt hi)) (column hi) (by decide) hu

end Magnification

/-! ### The band time and the frame report (R55, R173) -/

theorem bandTime_eq (c : StreamConfig) (h : FrameHeader) (b : Nat) :
    bandTime c h b =
      h.t0.toNat + (2 * (b * c.hb) + (min c.height (b * c.hb + c.hb) - b * c.hb) - 1) *
        (if h.rowPeriod = 0 then 1 else h.rowPeriod.toNat) / 2000 := by
  have hperiod : bandPeriod h = if h.rowPeriod = 0 then 1 else h.rowPeriod.toNat := by
    unfold bandPeriod
    by_cases hzero : h.rowPeriod = 0
    · rw [if_pos hzero, hzero]
      rfl
    · have hpos : h.rowPeriod.toNat ≠ 0 := fun h0 => hzero (BitVec.eq_of_toNat_eq h0)
      rw [if_neg hzero]
      omega
  rw [bandTime, StreamConfig.bandRows, Nat.succ_mul b, hperiod]

theorem leastOf_eq (x : Option Nat) (v : Nat) : leastOf x v = some (min (x.getD v) v) := by
  cases x <;> simp [leastOf]

theorem greatestOf_eq (x : Option Nat) (v : Nat) : greatestOf x v = some (max (x.getD v) v) := by
  cases x <;> simp [greatestOf]

/-! ### Conditions and axes of a plan (R59, R61) -/

theorem live_eq_decide (x : AxisState) : x.live = decide (x ≠ .lost ∧ x ≠ .none) := by cases x <;> rfl

/-- The conditions of a plan, each by what it says (R61, R62). -/
theorem planConditions_eq (tracks : PerAxis Track) (present known : Bool) (grid : Option (PerAxis GridPos)) (low high : Bool)
    (kb kv : Nat) :
    planConditions tracks present known grid low high kb kv =
      ⟨decide (tracks.focus.state = .fresh), decide (tracks.focus.state ≠ .lost ∧ tracks.focus.state ≠ .none),
        decide (tracks.zoom.state ≠ .lost ∧ tracks.zoom.state ≠ .none),
        decide (tracks.iris.state ≠ .lost ∧ tracks.iris.state ≠ .none), (grid.map (·.focus.inRange)).getD false,
        (grid.map (·.zoom.inRange)).getD false, (grid.map (·.iris.inRange)).getD false, low, high, present, known,
        decide (kb = 256 ∧ kv = 256)⟩ := by
  simp only [planConditions, live_eq_decide, beq_eq_decide, Bool.decide_and]

/-- A plan records the source, the state and the value of each axis as the tracks have them (R59). -/
theorem planAxes_get (tracks : PerAxis Track) (grid : Option (PerAxis GridPos)) (a : Axis) :
    ((planAxes tracks grid).get a).source = (tracks.get a).source ∧
      ((planAxes tracks grid).get a).state = (tracks.get a).state ∧
      ((planAxes tracks grid).get a).value = (tracks.get a).held := by
  cases a <;> exact ⟨rfl, rfl, rfl⟩

/-! ### The making of a plan (R58, R60, R67) -/

section Making

variable {s : State} {d : PlanId} {sMax : Nat} {i : Fin 8} {p : Profile}

theorem makePlan_of_no_slot (h : inUse s.slots = none) :
    s.makePlan d sMax = (neutralPlan d s none ⟨false, false, false⟩, s) := by
  rw [State.makePlan, h]

theorem makePlan_of_unknown (h : inUse s.slots = some (i, p)) (hknown : usedAxesKnown p.used s.tracks = false) :
    s.makePlan d sMax = (neutralPlan d s (some i) p.used, s) := by
  rw [State.makePlan, h]
  exact if_neg (by rw [hknown]; exact Bool.false_ne_true)

/-- The state as a capture of magnification `m`, when one is owed, lets a plan see it: REF_MAG alone counts (R67). -/
def State.referredTo (s : State) (m : Nat) : State :=
  { s with
    settings :=
      { s.settings with
        active := { s.settings.active with refMag := if s.planner.captureOwed then m else s.settings.active.refMag } } }

theorem correctedPlan_takeCapture (m : Nat) :
    correctedPlan d (s.takeCapture m) sMax i p = correctedPlan d (s.referredTo m) sMax i p := by
  rw [takeCapture_eq, State.referredTo]
  split <;> rfl

theorem makePlan_of_known (h : inUse s.slots = some (i, p)) (hknown : usedAxesKnown p.used s.tracks = true) :
    s.makePlan d sMax =
      (correctedPlan d (s.referredTo (p.magnification (gridPositions p (axisValues s.tracks)))) sMax i p,
        s.takeCapture (p.magnification (gridPositions p (axisValues s.tracks)))) := by
  rw [State.makePlan, h]
  exact (if_pos hknown).trans (congrArg (·, _) (correctedPlan_takeCapture _))

/-- Whichever plan is made, its identity, its strengths and its axes are those of the state (R59). -/
theorem makePlan_records (s : State) (d : PlanId) (sMax : Nat) :
    (s.makePlan d sMax).1.time = d.time ∧ ∃ grid, (s.makePlan d sMax).1.axes = planAxes s.tracks grid := by
  cases hslot : inUse s.slots with
  | none =>
    rw [makePlan_of_no_slot hslot]
    exact ⟨rfl, _, rfl⟩
  | some x =>
    obtain ⟨i, p⟩ := x
    cases hknown : usedAxesKnown p.used s.tracks with
    | false =>
      rw [makePlan_of_unknown hslot hknown]
      exact ⟨rfl, _, rfl⟩
    | true =>
      rw [makePlan_of_known hslot hknown]
      exact ⟨rfl, _, rfl⟩

end Making

/-- Settles O55: the steps in their order, the addition to the report, and the plan by whether its profile and its axes are
known. -/
theorem captureIsTakenByACorrectedPlan : Obligations.CaptureIsTakenByACorrectedPlan := by
  refine ⟨fun s c h b => ?_, fun r p => ?_, fun s d sMax hcontent hsMax => ⟨?_, fun hneutral => ?_, fun i p hslot hknown => ?_⟩⟩
  · dsimp only
    rw [← bandTime_eq]
    rfl
  · have hfocus : (if p.band = 0 then true else r.focusFresh) = (decide (p.band = 0) || r.focusFresh) := by
      by_cases hband : p.band = 0 <;> simp [hband]
    rw [FrameReport.addPlan, leastOf_eq, greatestOf_eq, hfocus]
    rfl
  · obtain ⟨-, -, hband, hframe, hkb, hkv⟩ := makePlan_leaves s d sMax
    obtain ⟨htime, grid, haxes⟩ := makePlan_records s d sMax
    refine ⟨hframe, hband, htime, hkb, hkv, fun a => ?_⟩
    rw [haxes]
    exact planAxes_get s.tracks grid a
  · rcases hneutral with hslot | ⟨i, p, hslot, hknown⟩
    · rw [makePlan_of_no_slot hslot, hslot]
      refine ⟨rfl, rfl, rfl, rfl, rfl, rfl, rfl, rfl, rfl, (planConditions_eq _ _ _ _ _ _ _ _).trans ?_⟩
      cases s.tracks.focus.state <;> rfl
    · rw [makePlan_of_unknown hslot hknown, hslot]
      refine ⟨rfl, rfl, rfl, rfl, rfl, rfl, rfl, rfl, rfl, (planConditions_eq _ _ _ _ _ _ _ _).trans ?_⟩
      dsimp only
      rw [hknown]
      rfl
  · obtain ⟨hshape, hdone⟩ := inUse_profile hcontent hslot
    have hm := magnification_within hshape hdone (axisValues s.tracks)
    rw [makePlan_of_known hslot hknown]
    refine ⟨⟨_, _, _⟩, rfl, rfl, rfl, hm, rfl, rfl, rawScale_eq _ _, clampScale_eq hsMax _,
      effectiveScale_eq (clampScale_within hsMax _).1 _, rfl, rfl, rfl, rfl, planConditions_eq _ _ _ _ _ _ _ _,
      fun howed => ?_, fun howed => ⟨?_, fun hcaptured => ?_⟩⟩
    · rw [takeCapture_eq, howed]
      rfl
    · rw [takeCapture_eq, howed]
      rfl
    · have href := reference_of_captured (p := p) (gridPositions p (axisValues s.tracks)).zoom hcaptured howed
        (p.magnification (gridPositions p (axisValues s.tracks))) s.settings.active.refMag
      have hraw := (congrArg (rawScale · _) href).trans (rawScale_self (by omega))
      exact ⟨href, hraw, (congrArg (clampScale sMax) hraw).trans (by rw [clampScale_eq hsMax]; omega)⟩

end Sys2Proof.Machine
